-- ==== Sys2Proof/Word.lean ====
section
/-! DEFINITION. The widths of the words the manual treats as bits: bytes, the 16-bit frame check and digest, the
32-bit lock key and command code, and the 8-bit zone mask. Everything else of the part is a name, a count or a list. -/

namespace Sys2Proof

/-- One byte of a frame, a register place or the configuration image. -/
abbrev Byte := BitVec 8

/-- The 16-bit result of the frame check of R81: a frame's check, a digest (R124), the image's check value. -/
abbrev Check := BitVec 16

/-- A 32-bit word: the lock key, the unlock code (R180) and the four letters of CMD (R165). -/
abbrev Word32 := BitVec 32

/-- A set of zones 1..8, bit z - 1 standing for zone z (R188). -/
abbrev ZoneMask := BitVec 8

end Sys2Proof
end

