-- ==== Sys2Proof/Config.lean ====
section
/-! DEFINITION. What the manual fixes for the part (capacities, limits) and the FREE VALUES it leaves open: constants with
no body, which no proof can look into. -/

namespace Sys2Proof.Config

/-- Stations a link can have, and entries of the Station Directory (R2, R100). -/
abbrev stations : Nat := 24
/-- Records of one owner: points 0..15 and the link-lost point 16 (R2). -/
abbrev pointsPerOwner : Nat := 17
/-- Records of the Point Table (R2). -/
abbrev records : Nat := 408
/-- Places of the Alarm List (R27). -/
abbrev listPlaces : Nat := 80
/-- Places of the Notice Queue (R65). -/
abbrev queuePlaces : Nat := 12
/-- Notices one SLOT frame carries at most (R72). -/
abbrev noticesPerFrame : Nat := 6
/-- Entries of the History Log, and of its earliest part (R160). -/
abbrev logPlaces : Nat := 48
abbrev earliestPart : Nat := 16
/-- The age at which a queued notice is discarded (R71). -/
abbrev noticeAgeLimit : Nat := 8
/-- The age at which a pending request, or a join wait, lapses (R131, R115). -/
abbrev lapseAge : Nat := 3
/-- The greatest cycle number, 2^40 - 1 (R85). -/
abbrev lastCycle : Nat := 2 ^ 40 - 1
/-- The silence timeout of a slot, in bt (R88). -/
abbrev silenceLimit : Nat := 96
/-- The length limit of a slot, in bt (R89). -/
abbrev slotLimit : Nat := 2720
/-- The interval after a frame end that ends an occupied slot, in bt (R89). -/
abbrev slotEndGap : Nat := 24
/-- The listen window and the return from JOINING, in bt (R108, R109). -/
abbrev quietLimit : Nat := 65536
/-- The mark timer's delay for a station address, in bt (R84). -/
abbrev markDelay (address : Nat) : Nat := 48 + 24 * address
/-- Consecutive differing samples that change a button's recognised state (R150). -/
abbrev buttonSamples : Nat := 20
/-- Read attempts of the Configuration Loader (R182). -/
abbrev readAttempts : Nat := 3

/-- FREE VALUE (log entry 3): the order in which one step does things that the manual says may be taken in either
order. It is applied to the fresh counter `State.choices`. -/
opaque freeOrder : Nat → Nat

/-- FREE VALUE (log entry 4): the station a RESTART history entry names when the station that takes "WARM" has no
validated image and so no address (R159 with R182). Applied to `State.choices`. -/
opaque restartStation : Nat → Nat

/-- Fixed by each part, not by the manual (log entry 5): the silicon revision number in IDENT (R193). -/
opaque siliconRevision : Byte

end Sys2Proof.Config
end

