-- ==== Sys2Proof/Syntax.lean ====
section
/-! DEFINITION. The names and records of the manual, the frames and notices of the link, and `Instr`: one constructor per
row of the table of operations and events (spec/opcode_table.json). -/

namespace Sys2Proof

/-- The ordering key of every change applied (Conventions, Stamps). -/
structure Stamp where
  cycle : Nat
  slot : Nat
  position : Nat
  deriving DecidableEq, Repr

/-- A point is named by the pair (owner, point): owner 1..24, point 0..16. -/
structure PointId where
  owner : Nat
  point : Nat
  deriving DecidableEq, Repr

/-- The class of a point (R3). -/
inductive PointClass where
  | shutdown | alarm | advisory
  deriving DecidableEq, Repr

/-- The sequence of a point (R3). -/
inductive Sequence where
  | autoReset | manualReset
  deriving DecidableEq, Repr

/-- The five states of the annunciation sequence (R6). -/
inductive PointState where
  | normal | alert | acked | returned | ringback
  deriving DecidableEq, Repr

/-- The attributes of a point: class, sequence, first-out group 0..8 (R4). -/
structure Attributes where
  cls : PointClass
  seq : Sequence
  group : Nat
  deriving DecidableEq, Repr

/-- The nine notice kinds with their fields (R60). -/
inductive Notice where
  | raise (point occurrence : Nat) (attrs : Attributes)
  | clear (point occurrence : Nat) (attrs : Attributes)
  | ackUpto (mask : ZoneMask) (limit : Stamp)
  | ackPoint (owner point occurrence : Nat)
  | resetUpto (mask : ZoneMask) (limit : Stamp)
  | shelve (owner point : Nat)
  | unshelve (owner point : Nat)
  | join (needTables : Bool)
  | resyncRequest (target : Nat)
  deriving DecidableEq, Repr

/-- A MARK frame (R80). -/
structure MarkFrame where
  sender : Nat
  slots : Nat
  cycle : Nat
  deriving DecidableEq, Repr

/-- A SLOT frame (R80). A notice outside its kind and ranges is carried as `none`: it is ignored and keeps its
position number (R59). The zone is the byte carried; only 1..8 is a zone (R82). -/
structure SlotFrame where
  sender : Nat
  zone : Nat
  cycle : Nat
  listFollows : Bool
  digest : Check
  notices : List (Option Notice)
  deriving DecidableEq, Repr

/-- One entry of an OWNED LIST, and the unit of the digest (R124, R191). An alert stamp of 0.0.0 is absent. -/
structure ListEntry where
  point : Nat
  state : PointState
  active : Bool
  shelved : Bool
  firstOut : Bool
  occurrence : Nat
  attrs : Attributes
  alert : Stamp
  deriving DecidableEq, Repr

/-- An OWNED LIST frame (R80); an entry with an undefined code is carried as `none` (R134). -/
structure ListFrame where
  sender : Nat
  cycleLow : Nat
  entries : List (Option ListEntry)
  deriving DecidableEq, Repr

/-- Why a read attempt of the configuration memory failed (R182 stage 3). -/
inductive AttemptFailure where
  | dataLineHeld | noAcknowledge
  deriving DecidableEq, Repr

/-- A moment inside the application of a frame: how many of its parts are complete, and how many record events of the part
that follows. The parts of a SLOT frame are its header and its notices (R97), those of an OWNED LIST its replacements
(R135). -/
structure Moment where
  parts : Nat
  events : Nat := 0
  deriving DecidableEq, Repr

/-- What the panel and the supervisory processor can do inside the application of a frame with an effect that depends on the
moment: silence the horn (R148), ask the Alarm List (R40), load the record latch (R44, R170), empty the log, or be refused
that while locked (R161; log entry 43), clear event flags by a byte written to EVENTS (R167; log entry 46). -/
inductive InsideAction where
  | silencePress | ackPress | resetPress | siln | acka | rsta | recordLoad | clrh
  | eventsWrite (offset : Nat) (value : Byte)
  deriving DecidableEq, Repr

/-- An action that falls inside the application of a frame (log entry 36). -/
structure Inside where
  action : InsideAction
  moment : Moment
  deriving DecidableEq, Repr

/-- The commands: one constructor per row of the table of operations and events. -/
inductive Instr where
  /-- POWER_ON, true where SSN is low at that moment (R163) -/
  | powerOn (selected : Bool := false)
  /-- RESETN_LOW, true where SSN is low at that moment (R163) -/
  | resetnLow (selected : Bool := false)
  /-- WARM_RESTART -/
  | warmRestart
  /-- CONFIG_WAIT_EXPIRY -/
  | configWaitExpiry
  /-- FAILED_ATTEMPT, with the line or the acknowledge that failed -/
  | failedAttempt (cause : AttemptFailure)
  /-- RETRY_WAIT_EXPIRY -/
  | retryWaitExpiry
  /-- CONFIG_READ_COMPLETE, with the 256 bytes read -/
  | configReadComplete (bytes : Vector Byte 256)
  /-- INPUT_SAMPLE, bit p set where contact p is closed -/
  | inputSample (closed : BitVec 16)
  /-- INPUT_EVENT at one input -/
  | inputEvent (point : Nat)
  /-- BUTTON_SAMPLE, true where a button's contact is closed -/
  | buttonSample (ack silence reset test : Bool)
  /-- ACK_PRESS -/
  | ackPress
  /-- RESET_PRESS -/
  | resetPress
  /-- SILENCE_PRESS -/
  | silencePress
  /-- TEST_PRESS -/
  | testPress
  /-- TEST_RELEASE -/
  | testRelease
  /-- FLASH_CLOCK_TICK -/
  | flashClockTick
  /-- LAMP_TEST_EXPIRY -/
  | lampTestExpiry
  /-- REJOIN_DELAY_EXPIRY -/
  | rejoinDelayExpiry
  /-- FRAME_START -/
  | frameStart
  /-- COLLISION -/
  | collision
  /-- FRAME_END_BY_GAP -/
  | frameEndByGap
  /-- INVALID_FRAME -/
  | invalidFrame
  /-- MARK_RECEIVED, with the bytes of the frame that ended -/
  | markReceived (bytes : List Byte)
  /-- SLOT_FRAME_RECEIVED, with the bytes of the frame that ended, and what falls inside its application (log entry 36) -/
  | slotFrameReceived (bytes : List Byte) (inside : List Inside := [])
  /-- OWNED_LIST_RECEIVED, with the bytes of the frame that ended, and what falls inside its application (log entry 36) -/
  | ownedListReceived (bytes : List Byte) (inside : List Inside := [])
  /-- SLOT_FRAME_SEND -/
  | slotFrameSend
  /-- OWN_SLOT_FRAME_SENT, with what falls inside its application (log entry 36), true where its notices leave the queue
  before they are applied (R97) -/
  | ownSlotFrameSent (inside : List Inside := []) (removedFirst : Bool := false)
  /-- OWNED_LIST_SEND -/
  | ownedListSend
  /-- OWNED_LIST_SENT -/
  | ownedListSent
  /-- MARK_TIMER_EXPIRY -/
  | markTimerExpiry
  /-- LISTEN_WINDOW_EXPIRY -/
  | listenWindowExpiry
  /-- FOUNDING -/
  | founding
  /-- JOIN_QUIET_TIMEOUT -/
  | joinQuietTimeout
  /-- SILENT_SLOT -/
  | silentSlot
  /-- SLOT_END -/
  | slotEnd
  /-- SLOT_LENGTH_LIMIT -/
  | slotLengthLimit
  /-- ACKA written into CMD, its inputs in CMDDATA -/
  | acka
  /-- ACKP -/
  | ackp
  /-- RSTA -/
  | rsta
  /-- SHLV -/
  | shlv
  /-- UNSH -/
  | unsh
  /-- SILN -/
  | siln
  /-- TEST -/
  | test
  /-- CLRH -/
  | clrh
  /-- ISOL -/
  | isol
  /-- RJON -/
  | rjon
  /-- LKEY -/
  | lkey
  /-- WARM -/
  | warm
  /-- ABRT -/
  | abrt
  /-- UNKNOWN_COMMAND, with the four letters written -/
  | unknownCommand (code : Word32)
  /-- OVERRUN, with the four letters written -/
  | overrun (code : Word32)
  /-- EVENTS_WRITE of the byte at 0Ch + offset -/
  | eventsWrite (offset : Nat) (value : Byte)
  /-- EVENTMASK_WRITE of the byte at 0Eh + offset -/
  | eventmaskWrite (offset : Nat) (value : Byte)
  /-- COUNTERS_WRITE of the byte at 10h + offset -/
  | countersWrite (offset : Nat) (value : Byte)
  /-- SELECT_WRITE, the whole field -/
  | selectWrite (object : Byte) (index : BitVec 16)
  /-- RECORD_LOAD -/
  | recordLoad
  /-- REGISTER_WRITE of one byte at a window address -/
  | registerWrite (address : BitVec 7) (value : Byte)
  /-- RESETN_HIGH -/
  | resetnHigh
  /-- POWER_ON_HOLD_END -/
  | powerOnHoldEnd
  /-- LOSS_OF_SUPPLY -/
  | lossOfSupply
  /-- SSN_RISING -/
  | ssnRising
  deriving DecidableEq, Repr

end Sys2Proof
end

