-- ==== Sys2Proof/Decode.lean ====
section
/-! DEFINITION. The decoder of table words. The part is a block: no row of the table of operations and events gives any
bits, so no word spells a command (log entry 27). -/

namespace Sys2Proof

/-- The command that a word of the table spells: none, for every word. -/
def decodeTableWord (_nbits _w : Nat) : Option Instr := none

end Sys2Proof
end

