-- ==== Sys2Proof/Machine/State.lean ====
section
/-! DEFINITION. The state of the PB-24, block by block, and its value after a start (R186). Plain data throughout. -/

namespace Sys2Proof.Machine

open Sys2Proof

/-- Reasons a step can stop with a fault. There are none: the manual gives every command an effect, and an event that
cannot happen in the state it meets changes nothing (log entry 1). -/
inductive Fault where
  deriving DecidableEq, Repr

/-- Reasons a step has no meaning. -/
inductive Refusal where
  /-- Raised by an arm of `exec` that has no meaning yet; no arm uses it. Safe: the step stops. -/
  | notModelled (mnemonic : String)
  deriving DecidableEq, Repr

/-- One record of the Point Table (R3). -/
structure PointRecord where
  attrs : Attributes
  active : Bool
  state : PointState
  occurrence : Nat
  alert : Option Stamp
  firstOut : Bool
  shelved : Bool
  unlisted : Bool
  ownerLost : Bool
  lastActor : Option Nat
  deriving DecidableEq, Repr

/-- The reset values of a record (R5). -/
def PointRecord.reset : PointRecord :=
  { attrs := ⟨.alarm, .manualReset, 0⟩, active := false, state := .normal, occurrence := 0, alert := none,
    firstOut := false, shelved := false, unlisted := false, ownerLost := false, lastActor := none }

/-- The Alarm List (R27), its generation count (R37) and the unlisted count (R28). -/
structure AlarmList where
  entries : List PointId
  generation : Nat
  unlistedCount : Nat
  deriving DecidableEq, Repr

/-- The summary of one zone (R50). -/
structure ZoneSummary where
  alerting : Nat
  standing : Nat
  lost : Nat
  deriving DecidableEq, Repr

/-- The Group and Zone Unit: a group is ARMED (`none`) or HELD by a point (R45); zone summaries (R50); the demand count
(R54) and the trip latch, `true` for SET (R56). -/
structure GroupUnit where
  holders : Vector (Option PointId) 8
  zones : Vector ZoneSummary 8
  demand : Nat
  latch : Bool
  deriving DecidableEq, Repr

/-- What placed a queued notice (R65). -/
inductive Source where
  | input | ackButton | resetButton | command | agreement | link
  deriving DecidableEq, Repr

/-- A queued notice (R65). -/
structure QueuedNotice where
  notice : Notice
  source : Source
  age : Nat
  inFlight : Bool
  cmdMark : Bool
  deriving DecidableEq, Repr

/-- The link states (R106). -/
inductive LinkState where
  | configuring | configFault | listening | joining | running | isolated | conflict | mismatch
  deriving DecidableEq, Repr

/-- The timing position (R84). -/
inductive Position where
  | unsynchronised
  | markPhase
  | slot (k : Nat)
  deriving DecidableEq, Repr

/-- A timer: stopped, or running toward its limit in bt (R84). The time already run is not held (log entry 2). -/
inductive Timer where
  | stopped
  | runningToward (limit : Nat)
  deriving DecidableEq, Repr

/-- What the receiver has in reception (R78): nothing, a frame, or the mixed frame heard after an own MARK collided (R86). -/
inductive Reception where
  | idle | frame | mixed
  deriving DecidableEq, Repr

/-- The station's own frame that is being sent (R77). -/
inductive Sending where
  | mark (f : MarkFrame)
  | slot (f : SlotFrame)
  | list (f : ListFrame)
  deriving DecidableEq, Repr

/-- The Link Controller (R84, R106, R107). -/
structure Link where
  state : LinkState
  position : Position
  cycle : Option Nat
  confirmed : Bool
  current : Stamp
  markTimer : Timer
  silenceTimer : Timer
  lengthTimer : Timer
  slotEndTimer : Timer
  quiet : Nat
  markCollisions : Nat
  ownCollisions : Nat
  frameErrors : Nat
  collisions : Nat
  slips : Nat
  tablesNeeded : Bool
  ownInitialised : Bool
  markSeen : Bool
  joinSent : Option Bool
  reception : Reception
  sending : Option Sending
  sendDue : Bool
  listDue : Bool
  foundingSlot : Bool
  deriving DecidableEq, Repr

/-- Liveness of a directory entry (R100). -/
inductive Liveness where
  | unknown | live | silent1 | silent2 | lost
  deriving DecidableEq, Repr

/-- One entry of the Station Directory (R100). -/
structure DirEntry where
  liveness : Liveness
  zone : Option Nat
  lastCycle : Option Nat
  digest : Option Check
  listOwed : Bool
  resync : Option Nat
  stale : Bool
  joinWait : Option Nat
  deriving DecidableEq, Repr

/-- The start values of a directory entry (R100). -/
def DirEntry.reset : DirEntry :=
  { liveness := .unknown, zone := none, lastCycle := none, digest := none, listOwed := false, resync := none,
    stale := false, joinWait := none }

/-- The Agreement Unit's items beside the directory (R123). -/
structure Agreement where
  deferred : Option (Nat × Check)
  lapses : Nat
  trial : Option Check
  rebuildCycle : Option Nat
  deriving DecidableEq, Repr

/-- A filtered condition (R140). -/
inductive Filtered where
  | unsettled | active | inactive
  deriving DecidableEq, Repr

/-- What the Input Scanner holds for one input (R140, R142, R70). -/
structure InputState where
  filtered : Filtered
  candidate : Bool
  count : Nat
  announced : Bool
  chatter : Nat
  deriving DecidableEq, Repr

/-- An input after a start (R140, R142, R70; the candidate is log entry 6). -/
def InputState.reset : InputState :=
  { filtered := .unsettled, candidate := false, count := 0, announced := false, chatter := 0 }

/-- A button's recognised state (`true` for PRESSED) and filter count (R150). -/
structure ButtonState where
  pressed : Bool
  count : Nat
  deriving DecidableEq, Repr

/-- The Panel Unit (R68, R145, R148, R150). -/
structure Panel where
  silence : Stamp
  ackButton : ButtonState
  silenceButton : ButtonState
  resetButton : ButtonState
  testButton : ButtonState
  heldAck : Option Notice
  heldReset : Option Notice
  flash : Nat
  deriving DecidableEq, Repr

/-- The kinds of history entries (R156 to R159), in the order of their codes (R194). -/
inductive HistoryKind where
  | raise | clear | ackPoint | shelve | unshelve | ackUpto | resetUpto | staleAck | overflow | lost | joined
  | isolate | rejoin | conflict | mismatch | rebuild | resync | lapse | queueAged | queueFlush | lockRefused | restart
  deriving DecidableEq, Repr

/-- A history entry (R154). -/
structure HistoryEntry where
  stamp : Stamp
  kind : HistoryKind
  station : Nat
  point : Option Nat := none
  occurrence : Option Nat := none
  actor : Option Nat := none
  count : Option Nat := none
  cls : Option PointClass := none
  deriving DecidableEq, Repr

/-- The History Log and its overflow count (R154). -/
structure History where
  entries : List HistoryEntry
  overflow : Nat
  deriving DecidableEq, Repr

/-- The twelve commands of the mailbox (R174). -/
inductive CommandCode where
  | acka | ackp | rsta | shlv | unsh | siln | test | clrh | isol | rjon | lkey | warm
  deriving DecidableEq, Repr

/-- The command in progress: its code, the inputs captured at its start (R172), whether an abort waits for a frame's end
(R178), and the current stamp at its start, which "WARM" keeps for its RESTART entry (R163). -/
structure RunningCommand where
  code : CommandCode
  inputs : Vector Byte 16
  abortWaiting : Bool
  stamp : Stamp
  deriving DecidableEq, Repr

/-- The results of commands (R173). -/
inductive CommandResult where
  | done | aborted | stale | refused | full | locked | absent
  deriving DecidableEq, Repr

/-- The objects of the record selector (R169). -/
inductive RecordObject where
  | alarmList | pointTable | directory | history
  deriving DecidableEq, Repr

/-- The modal state (R179): a lamp test is timed (its seconds) or held (`none`); an isolation has a delay or none. -/
inductive Modal where
  | none
  | lampTest (seconds : Option Nat)
  | isolated (delay : Option Nat)
  deriving DecidableEq, Repr

/-- The transaction of the supervisory port (R163, R164): none in which a byte has been acted on, a write or a read with the
current address after its last byte, or one that a start has abandoned, whose SCK the port ignores until SSN falls anew. -/
inductive Transaction where
  | idle
  | writing (next : Nat)
  | reading (next : Nat)
  | abandoned
  deriving DecidableEq, Repr

/-- What a power-on or a low RESETN makes of the transaction in progress (R163): one in which no byte has been acted on is
in progress while SSN is low. -/
def Transaction.cut (selected : Bool) : Transaction → Transaction
  | .idle => if selected then .abandoned else .idle
  | .writing _ => .abandoned
  | .reading _ => .abandoned
  | .abandoned => .abandoned

/-- The Command Unit (R163, R164). -/
structure Port where
  transaction : Transaction
  running : Option RunningCommand
  result : CommandResult
  data : Vector Byte 16
  overrun : Nat
  events : BitVec 12
  enables : BitVec 12
  object : RecordObject
  index : Nat
  latch : Vector Byte 16
  modal : Modal
  key : Word32
  cmdPart : Vector (Option Byte) 4
  selectPart : Vector (Option Byte) 3
  deriving DecidableEq, Repr

/-- The attributes the image gives one input (ch. 8, R195); `activeOpen` is the polarity ACTIVE-OPEN. -/
structure InputConfig where
  used : Bool
  activeOpen : Bool
  debounce : Nat
  attrs : Attributes
  deriving DecidableEq, Repr

/-- The bit rate codes (R195). -/
inductive BitRate where
  | kbit125 | kbit250 | kbit500
  deriving DecidableEq, Repr

/-- The content of a validated configuration image (R181). A window is mapped to a point or unmapped. -/
structure Image where
  address : Nat
  slots : Nat
  rate : BitRate
  zone : Nat
  viewMask : ZoneMask
  tripMask : ZoneMask
  promote : Bool
  inputs : List InputConfig
  windows : List (Option PointId)
  unlock : Word32
  deriving DecidableEq, Repr

/-- The load states (R182). -/
inductive LoadState where
  | waiting | reading | checking | delivered | fault
  deriving DecidableEq, Repr

/-- The Configuration Loader (R182); `retryWait` while its 5 ms wait after a failed attempt runs. R182 names no load state
for that wait, and the model keeps READING (log entry 34). -/
structure Loader where
  state : LoadState
  attempts : Nat
  retryWait : Bool
  buffer : Vector Byte 256
  image : Option Image
  deriving DecidableEq, Repr

/-- The whole state of the part, with the queue of waiting commands and the counter of free choices (log entry 3). -/
structure State where
  pending : List Instr
  choices : Nat
  supply : Bool
  powerHold : Bool
  resetnLow : Bool
  points : Vector PointRecord 408
  list : AlarmList
  groups : GroupUnit
  notices : List QueuedNotice
  link : Link
  directory : Vector DirEntry 24
  agreement : Agreement
  scanner : Vector InputState 16
  panel : Panel
  history : History
  port : Port
  loader : Loader
  deriving DecidableEq, Repr

/-- The Alarm List after a start (R27, R28, R37). -/
def AlarmList.reset : AlarmList := { entries := [], generation := 0, unlistedCount := 0 }

/-- The Group and Zone Unit after a start (R45, R50, R54, R56). -/
def GroupUnit.reset : GroupUnit :=
  { holders := .replicate 8 none, zones := .replicate 8 ⟨0, 0, 0⟩, demand := 0, latch := false }

/-- The Link Controller after a start (R82, R84, R106). -/
def Link.reset : Link :=
  { state := .configuring, position := .unsynchronised, cycle := none, confirmed := false, current := ⟨0, 0, 0⟩,
    markTimer := .stopped, silenceTimer := .stopped, lengthTimer := .stopped, slotEndTimer := .stopped, quiet := 0,
    markCollisions := 0, ownCollisions := 0, frameErrors := 0, collisions := 0, slips := 0, tablesNeeded := true,
    ownInitialised := false, markSeen := false, joinSent := none, reception := .idle, sending := none,
    sendDue := false, listDue := false, foundingSlot := false }

/-- The Agreement Unit after a start (R123). -/
def Agreement.reset : Agreement := { deferred := none, lapses := 0, trial := none, rebuildCycle := none }

/-- The Panel Unit after a start (ch. 8, section 8.8). -/
def Panel.reset : Panel :=
  { silence := ⟨0, 0, 0⟩, ackButton := ⟨false, 0⟩, silenceButton := ⟨false, 0⟩, resetButton := ⟨false, 0⟩,
    testButton := ⟨false, 0⟩,
    heldAck := none, heldReset := none, flash := 0 }

/-- The Command Unit after a start (R163). -/
def Port.reset : Port :=
  { transaction := .idle, running := none, result := .absent, data := .replicate 16 0, overrun := 0, events := 0, enables := 0,
    object := .alarmList, index := 0, latch := .replicate 16 0, modal := .none, key := 0,
    cmdPart := .replicate 4 none, selectPart := .replicate 3 none }

/-- The Configuration Loader after a start (R182). -/
def Loader.reset : Loader :=
  { state := .waiting, attempts := 0, retryWait := false, buffer := .replicate 256 0, image := none }

/-- The machine right after reset: every block at its start values, the power-on hold ended, the log emptied (R186, R162;
log entry 6), no command waiting. -/
def State.reset : State :=
  { pending := [], choices := 0, supply := true, powerHold := false, resetnLow := false,
    points := .replicate 408 .reset, list := .reset, groups := .reset, notices := [], link := .reset,
    directory := .replicate 24 .reset, agreement := .reset, scanner := .replicate 16 .reset, panel := .reset,
    history := ⟨[], 0⟩, port := .reset, loader := .reset }

end Sys2Proof.Machine
end

