-- ==== Sys2Proof/Machine/Layouts.lean ====
section
/-! DEFINITION. Byte layouts and codes (ch. 12): stamps, attributes, notices, frames, OWNED LIST entries, the frame check,
and the configuration image. Most significant byte first throughout (R1, R188). -/

namespace Sys2Proof.Machine

open Sys2Proof

/-! Bytes -/

/-- The byte at an offset; 0 past the end. -/
def byteAt (bs : List Byte) (offset : Nat) : Byte := bs.getD offset 0

/-- A number as `n` bytes, most significant first (R1). -/
def beBytes : Nat → Nat → List Byte
  | 0, _ => []
  | n + 1, v => BitVec.ofNat 8 (v / 256 ^ n) :: beBytes n v

/-- The number that bytes hold, most significant first (R1). -/
def beNat (bs : List Byte) : Nat := bs.foldl (fun acc b => acc * 256 + b.toNat) 0

/-- The number in `n` bytes from an offset. -/
def fieldAt (bs : List Byte) (offset n : Nat) : Nat := beNat ((bs.drop offset).take n)

/-- A Bool as one bit of a byte. -/
def bit (b : Bool) (position : Nat) : Byte := if b then (1 : Byte) <<< position else 0

/-! The frame check (R81) -/

/-- One bit of the check: shift, and take in the generator 1021h when the bit shifted out is 1. -/
def crcShift (reg : Check) : Check :=
  if reg.getLsbD 15 then (reg <<< 1) ^^^ 0x1021#16 else reg <<< 1

/-- One byte of the check, most significant bit first. -/
def crcByte (reg : Check) (b : Byte) : Check :=
  let r := reg ^^^ (b.setWidth 16 <<< 8)
  crcShift (crcShift (crcShift (crcShift (crcShift (crcShift (crcShift (crcShift r)))))))

/-- The frame check of R81 over a sequence of bytes: the register starts at FFFFh. -/
def frameCheck (bs : List Byte) : Check := bs.foldl crcByte 0xFFFF#16

/-- A body closed with its check, most significant byte first (R80, R81). -/
def withCheck (body : List Byte) : List Byte := body ++ beBytes 2 (frameCheck body).toNat

/-! Stamps (R188) -/

/-- A stamp as 7 bytes. -/
def stampBytes (t : Stamp) : List Byte :=
  beBytes 5 t.cycle ++ [BitVec.ofNat 8 t.slot, BitVec.ofNat 8 t.position]

/-- The stamp at an offset. -/
def stampAt (bs : List Byte) (offset : Nat) : Stamp :=
  { cycle := fieldAt bs offset 5, slot := (byteAt bs (offset + 5)).toNat, position := (byteAt bs (offset + 6)).toNat }

/-- The stamp 0.0.0. -/
def stampZero : Stamp := ⟨0, 0, 0⟩

/-- An optional stamp as 7 bytes; absent is all zero (R188). -/
def optStampBytes (t : Option Stamp) : List Byte := stampBytes (t.getD stampZero)

/-! Attributes, state and flags (R190) -/

/-- The class code of R190. -/
def classCode : PointClass → Nat
  | .shutdown => 1
  | .alarm => 2
  | .advisory => 3

/-- The class of a code; 0 is undefined. -/
def classOfCode : Nat → Option PointClass
  | 1 => some .shutdown
  | 2 => some .alarm
  | 3 => some .advisory
  | _ => none

/-- The attributes byte. -/
def attributesByte (a : Attributes) : Byte :=
  BitVec.ofNat 8 (classCode a.cls + (if a.seq = .manualReset then 4 else 0) + 16 * a.group)

/-- The attributes of a byte; undefined class code 0 and groups 9..15 give none; bit 3 is not looked at (R189). -/
def attributesOf (b : Byte) : Option Attributes :=
  match classOfCode (b.toNat % 4) with
  | some c =>
    if b.toNat / 16 ≤ 8 then
      some { cls := c, seq := if b.getLsbD 2 then .manualReset else .autoReset, group := b.toNat / 16 }
    else none
  | none => none

/-- The state code of R190. -/
def stateCode : PointState → Nat
  | .normal => 0
  | .alert => 1
  | .acked => 2
  | .returned => 3
  | .ringback => 4

/-- The state of a code; 5..7 are undefined. -/
def stateOfCode : Nat → Option PointState
  | 0 => some .normal
  | 1 => some .alert
  | 2 => some .acked
  | 3 => some .returned
  | 4 => some .ringback
  | _ => none

/-- The state and flags byte. -/
def stateFlagsByte (st : PointState) (active shelved firstOut : Bool) : Byte :=
  BitVec.ofNat 8 (stateCode st + (if active then 8 else 0) + (if shelved then 16 else 0) + (if firstOut then 32 else 0))

/-! OWNED LIST entries and digests (R124, R191) -/

/-- An entry as 11 bytes. -/
def entryBytes (e : ListEntry) : List Byte :=
  [BitVec.ofNat 8 e.point, stateFlagsByte e.state e.active e.shelved e.firstOut, BitVec.ofNat 8 e.occurrence,
    attributesByte e.attrs] ++ stampBytes e.alert

/-- The entry that 11 bytes hold; none where a code is undefined (R189, R134). -/
def entryOf (bs : List Byte) : Option ListEntry :=
  match stateOfCode ((byteAt bs 1).toNat % 8), attributesOf (byteAt bs 3) with
  | some st, some a =>
    some { point := (byteAt bs 0).toNat, state := st, active := (byteAt bs 1).getLsbD 3,
           shelved := (byteAt bs 1).getLsbD 4, firstOut := (byteAt bs 1).getLsbD 5,
           occurrence := (byteAt bs 2).toNat, attrs := a, alert := stampAt bs 4 }
  | _, _ => none

/-- The entry of a record: the alert stamp is written as zero while the state is NORMAL (R124). -/
def entryOfRecord (p : Nat) (r : PointRecord) : ListEntry :=
  { point := p, state := r.state, active := r.active, shelved := r.shelved, firstOut := r.firstOut,
    occurrence := r.occurrence, attrs := r.attrs,
    alert := if r.state = .normal then stampZero else r.alert.getD stampZero }

/-- The digest of entries: the frame check of their bytes (R124). -/
def digestOf (es : List ListEntry) : Check := frameCheck (es.flatMap entryBytes)

/-! Notices (R192) -/

/-- A notice as 10 bytes. -/
def noticeBytes : Notice → List Byte
  | .raise p o a => [1, BitVec.ofNat 8 p, BitVec.ofNat 8 o, attributesByte a, 0, 0, 0, 0, 0, 0]
  | .clear p o a => [2, BitVec.ofNat 8 p, BitVec.ofNat 8 o, attributesByte a, 0, 0, 0, 0, 0, 0]
  | .ackUpto m l => [3, m] ++ stampBytes l ++ [0]
  | .ackPoint w p o => [4, BitVec.ofNat 8 w, BitVec.ofNat 8 p, BitVec.ofNat 8 o, 0, 0, 0, 0, 0, 0]
  | .resetUpto m l => [5, m] ++ stampBytes l ++ [0]
  | .shelve w p => [6, BitVec.ofNat 8 w, BitVec.ofNat 8 p, 0, 0, 0, 0, 0, 0, 0]
  | .unshelve w p => [7, BitVec.ofNat 8 w, BitVec.ofNat 8 p, 0, 0, 0, 0, 0, 0, 0]
  | .join n => [8, bit n 0, 0, 0, 0, 0, 0, 0, 0, 0]
  | .resyncRequest t => [9, BitVec.ofNat 8 t, 0, 0, 0, 0, 0, 0, 0, 0]

/-- An owner 1..24 and a point 0..16 (R60). -/
def pointInRange (owner point : Nat) : Bool := 1 ≤ owner && owner ≤ 24 && point ≤ 16

/-- The notice that 10 bytes hold; none for an undefined kind or a field outside the ranges of R60 (R59, R189). -/
def noticeOf (bs : List Byte) : Option Notice :=
  let b1 := (byteAt bs 1).toNat
  let b2 := (byteAt bs 2).toNat
  let b3 := (byteAt bs 3).toNat
  match (byteAt bs 0).toNat with
  | 1 => match attributesOf (byteAt bs 3) with
    | some a => if b1 ≤ 15 then some (.raise b1 b2 a) else none
    | none => none
  | 2 => match attributesOf (byteAt bs 3) with
    | some a => if b1 ≤ 15 then some (.clear b1 b2 a) else none
    | none => none
  | 3 => some (.ackUpto (byteAt bs 1) (stampAt bs 2))
  | 4 => if pointInRange b1 b2 then some (.ackPoint b1 b2 b3) else none
  | 5 => some (.resetUpto (byteAt bs 1) (stampAt bs 2))
  | 6 => if pointInRange b1 b2 then some (.shelve b1 b2) else none
  | 7 => if pointInRange b1 b2 then some (.unshelve b1 b2) else none
  | 8 => some (.join ((byteAt bs 1).getLsbD 0))
  | 9 => if 1 ≤ b1 && b1 ≤ 24 then some (.resyncRequest b1) else none
  | _ => none

/-! Frames (R80, R191) -/

/-- The body of a MARK, before its check. -/
def markBody (f : MarkFrame) : List Byte :=
  [0x51, BitVec.ofNat 8 f.sender, BitVec.ofNat 8 f.slots] ++ beBytes 5 f.cycle

/-- The bytes of a notice place of a frame; a place a PB-24 sends always holds a notice. -/
def placeBytes : Option Notice → List Byte
  | some n => noticeBytes n
  | none => List.replicate 10 0

/-- The body of a SLOT frame, before its check. -/
def slotBody (f : SlotFrame) : List Byte :=
  [0x52, BitVec.ofNat 8 f.sender, BitVec.ofNat 8 f.zone] ++ beBytes 5 f.cycle
    ++ [BitVec.ofNat 8 f.notices.length, bit f.listFollows 0] ++ beBytes 2 f.digest.toNat
    ++ f.notices.flatMap placeBytes

/-- The body of an OWNED LIST, before its check. -/
def listBody (f : ListFrame) : List Byte :=
  [0x53, BitVec.ofNat 8 f.sender] ++ beBytes 2 f.cycleLow
    ++ f.entries.flatMap (fun e => match e with
      | some e => entryBytes e
      | none => List.replicate 11 0)

/-- The bytes the station sends for a frame of its own. -/
def Sending.bytes : Sending → List Byte
  | .mark f => withCheck (markBody f)
  | .slot f => withCheck (slotBody f)
  | .list f => withCheck (listBody f)

/-- The length the receiver expects, from the kind byte and, for a SLOT frame, the notice count (R80). -/
def expectedLength (bs : List Byte) : Option Nat :=
  match (byteAt bs 0).toNat with
  | 0x51 => some 10
  | 0x52 => if (byteAt bs 8).toNat ≤ 6 then some (14 + 10 * (byteAt bs 8).toNat) else none
  | 0x53 => some 182
  | _ => none

/-- Consecutive pieces of `width` bytes, `n` of them. -/
def pieces (width : Nat) : Nat → List Byte → List (List Byte)
  | 0, _ => []
  | n + 1, bs => bs.take width :: pieces width n (bs.drop width)

/-- A MARK read from its bytes. -/
def markOf (bs : List Byte) : MarkFrame :=
  { sender := (byteAt bs 1).toNat, slots := (byteAt bs 2).toNat, cycle := fieldAt bs 3 5 }

/-- A SLOT frame read from its bytes. -/
def slotOf (bs : List Byte) : SlotFrame :=
  { sender := (byteAt bs 1).toNat, zone := (byteAt bs 2).toNat, cycle := fieldAt bs 3 5,
    listFollows := (byteAt bs 9).getLsbD 0, digest := BitVec.ofNat 16 (fieldAt bs 10 2),
    notices := (pieces 10 (byteAt bs 8).toNat (bs.drop 12)).map noticeOf }

/-- An OWNED LIST read from its bytes. -/
def listOf (bs : List Byte) : ListFrame :=
  { sender := (byteAt bs 1).toNat, cycleLow := fieldAt bs 2 2,
    entries := (pieces 11 16 (bs.drop 4)).map entryOf }

/-- What the receiver makes of a frame that has ended. -/
inductive Judged where
  | mark (f : MarkFrame)
  | slot (f : SlotFrame)
  | list (f : ListFrame)
  | invalid
  deriving DecidableEq, Repr

/-- The judgement of R82 for a station with slot count `slots`, on the bytes of a frame that ended by length or not:
its check is correct, its kind is one of the three, its length agrees with its header, its sender is 1..S. The cycle number is
no condition of R82, so a frame that carries 0 is valid (log entry 35). -/
def judge (slots : Nat) (bs : List Byte) : Judged :=
  if expectedLength bs = some bs.length
      ∧ beNat (bs.drop (bs.length - 2)) = (frameCheck (bs.take (bs.length - 2))).toNat
      ∧ 1 ≤ (byteAt bs 1).toNat ∧ (byteAt bs 1).toNat ≤ slots then
    match (byteAt bs 0).toNat with
    | 0x51 => .mark (markOf bs)
    | 0x52 => .slot (slotOf bs)
    | 0x53 => .list (listOf bs)
    | _ => .invalid
  else .invalid

/-! The configuration image (R183, R195) -/

/-- One input entry of the image; none where it makes the image invalid (R183). -/
def inputConfigOf (bs : List Byte) : Option InputConfig :=
  match attributesOf (byteAt bs 2) with
  | some a =>
    if (byteAt bs 0).toNat ≤ 1 then
      some { used := (byteAt bs 0).toNat = 1, activeOpen := (byteAt bs 1).getLsbD 7,
             debounce := (byteAt bs 1).toNat % 16, attrs := a }
    else none
  | none => none

/-- One window entry of the image: `some none` unmapped, none where it makes the image invalid (R183). -/
def windowOf (bs : List Byte) : Option (Option PointId) :=
  let owner := (byteAt bs 0).toNat
  let point := (byteAt bs 1).toNat
  if owner = 0 then some none
  else if pointInRange owner point then some (some ⟨owner, point⟩)
  else none

/-- All the values of a list, when every one is present. -/
def allSome {α : Type} : List (Option α) → Option (List α)
  | [] => some []
  | some x :: rest => (allSome rest).map (x :: ·)
  | none :: _ => none

/-- The bit rate of a code (R195). -/
def bitRateOf : Nat → Option BitRate
  | 1 => some .kbit125
  | 2 => some .kbit250
  | 3 => some .kbit500
  | _ => none

/-- The scalar conditions of R183. -/
def imageHeaderValid (bs : List Byte) : Bool :=
  byteAt bs 0 == 0x50 && byteAt bs 1 == 0x24 && fieldAt bs 2 2 == 256
    && fieldAt bs 0xFE 2 == (frameCheck (bs.take 0xFE)).toNat
    && 1 ≤ (byteAt bs 4).toNat && (byteAt bs 4).toNat ≤ 24
    && 2 ≤ (byteAt bs 5).toNat && (byteAt bs 5).toNat ≤ 24 && (byteAt bs 4).toNat ≤ (byteAt bs 5).toNat
    && 1 ≤ (byteAt bs 7).toNat && (byteAt bs 7).toNat ≤ 8
    && (byteAt bs 0x0A).toNat ≤ 1

/-- The buffer judged by R183: its content when it is a valid image. -/
def imageOf (bs : List Byte) : Option Image :=
  if imageHeaderValid bs then
    match bitRateOf (byteAt bs 6).toNat, allSome ((pieces 3 16 (bs.drop 0x0B)).map inputConfigOf),
        allSome ((pieces 2 24 (bs.drop 0x3B)).map windowOf) with
    | some rate, some inputs, some windows =>
      some { address := (byteAt bs 4).toNat, slots := (byteAt bs 5).toNat, rate := rate, zone := (byteAt bs 7).toNat,
             viewMask := byteAt bs 8, tripMask := byteAt bs 9, promote := (byteAt bs 0x0A).toNat = 1,
             inputs := inputs, windows := windows, unlock := BitVec.ofNat 32 (fieldAt bs 0x6B 4) }
    | _, _, _ => none
  else none

end Sys2Proof.Machine
end

