-- ==== Sys2Proof/Machine/Ops.lean ====
section
/-! DEFINITION. The shared operations over the state: tables and their places, stamps, the configured values, link state
classes, free orders, event flags, the History Log and the completion of a command. -/

namespace Sys2Proof.Machine

open Sys2Proof

/-! Tables of fixed size -/

/-- The element at a place of a table, or a default for a place outside it. -/
def tableGet {α : Type} {n : Nat} (v : Vector α n) (i : Nat) (d : α) : α := if h : i < n then v[i] else d

/-- A table with the element at a place replaced; a place outside it changes nothing. -/
def tableSet {α : Type} {n : Nat} (v : Vector α n) (i : Nat) (x : α) : Vector α n := if h : i < n then v.set i x else v

/-- The place of a 1-based number (an address, a group, a zone) in a table of `n`; numbers outside 1..n have no place. -/
def placeOf (number n : Nat) : Nat := if number = 0 then n else number - 1

/-! Stamps and counters (R1) -/

/-- The stamp order: cycle first, then slot, then position (R1). -/
def Stamp.earlier (a b : Stamp) : Bool :=
  a.cycle < b.cycle
    || (a.cycle == b.cycle && (a.slot < b.slot || (a.slot == b.slot && a.position < b.position)))

/-- The later of two optional stamps. -/
def laterOf (a b : Option Stamp) : Option Stamp :=
  match a, b with
  | none, b => b
  | a, none => a
  | some x, some y => if Stamp.earlier x y then some y else some x

/-- A saturating count at its successor (R1). -/
def saturate (limit n : Nat) : Nat := if n < limit then n + 1 else n

/-- The successor of an occurrence (R7). -/
def nextOccurrence (n : Nat) : Nat := if n < 255 then n + 1 else 1

/-- The successor of a cycle number (R85). -/
def nextCycle (c : Nat) : Nat := if c < Config.lastCycle then c + 1 else 1

/-! Records, directory entries, inputs -/

/-- The place of a point in the Point Table: (owner - 1) × 17 + point, 0..407 (R2). -/
def pointIndex (id : PointId) : Nat :=
  if pointInRange id.owner id.point then (id.owner - 1) * Config.pointsPerOwner + id.point else Config.records

/-- The point at a table index (R2). -/
def pointAtIndex (i : Nat) : PointId := ⟨i / Config.pointsPerOwner + 1, i % Config.pointsPerOwner⟩

/-- The record of a point. -/
def State.record (s : State) (id : PointId) : PointRecord := tableGet s.points (pointIndex id) .reset

/-- The state with the record of a point replaced. -/
def State.setRecord (s : State) (id : PointId) (r : PointRecord) : State :=
  { s with points := tableSet s.points (pointIndex id) r }

/-- The state with the record of a point changed. -/
def State.modifyRecord (s : State) (id : PointId) (f : PointRecord → PointRecord) : State :=
  s.setRecord id (f (s.record id))

/-- The directory entry of an address 1..24. -/
def State.entry (s : State) (address : Nat) : DirEntry :=
  tableGet s.directory (placeOf address Config.stations) .reset

/-- The state with a directory entry changed. -/
def State.modifyEntry (s : State) (address : Nat) (f : DirEntry → DirEntry) : State :=
  { s with directory := tableSet s.directory (placeOf address Config.stations) (f (s.entry address)) }

/-- What the Input Scanner holds for input p. -/
def State.input (s : State) (p : Nat) : InputState := tableGet s.scanner p .reset

/-- The state with what the Scanner holds for input p changed. -/
def State.modifyInput (s : State) (p : Nat) (f : InputState → InputState) : State :=
  { s with scanner := tableSet s.scanner p (f (s.input p)) }

/-- The state with the Link Controller changed. -/
def State.mapLink (s : State) (f : Link → Link) : State := { s with link := f s.link }

/-- The state with the Command Unit changed. -/
def State.mapPort (s : State) (f : Port → Port) : State := { s with port := f s.port }

/-- The state with the Panel Unit changed. -/
def State.mapPanel (s : State) (f : Panel → Panel) : State := { s with panel := f s.panel }

/-- The state with the Group and Zone Unit changed. -/
def State.mapGroups (s : State) (f : GroupUnit → GroupUnit) : State := { s with groups := f s.groups }

/-- The state with the Alarm List changed. -/
def State.mapList (s : State) (f : AlarmList → AlarmList) : State := { s with list := f s.list }

/-- The state with the Agreement Unit changed. -/
def State.mapAgreement (s : State) (f : Agreement → Agreement) : State := { s with agreement := f s.agreement }

/-- The state with the Configuration Loader changed. -/
def State.mapLoader (s : State) (f : Loader → Loader) : State := { s with loader := f s.loader }

/-- All addresses, ascending. -/
def addresses : List Nat := (List.range Config.stations).map (· + 1)

/-- All points, in table index order (R2). -/
def allPoints : List PointId := (List.range Config.records).map pointAtIndex

/-- The points of one owner, in point order. -/
def pointsOf (owner count : Nat) : List PointId := (List.range count).map (fun p => ⟨owner, p⟩)

/-! Configured values (R181); without a validated image there is no address, no mask and no unlock code. -/

/-- The station's own address; 0 while no image has been delivered (R165). -/
def State.own (s : State) : Nat := match s.loader.image with | some i => i.address | none => 0

/-- The configured slot count. -/
def State.slots (s : State) : Nat := match s.loader.image with | some i => i.slots | none => 0

/-- The configured zone. -/
def State.ownZone (s : State) : Nat := match s.loader.image with | some i => i.zone | none => 0

/-- The view mask; empty without an image (R147, R156). -/
def State.viewMask (s : State) : ZoneMask := match s.loader.image with | some i => i.viewMask | none => 0

/-- The trip mask; empty without an image (R54). -/
def State.tripMask (s : State) : ZoneMask := match s.loader.image with | some i => i.tripMask | none => 0

/-- The promote-alarms flag. -/
def State.promote (s : State) : Bool := match s.loader.image with | some i => i.promote | none => false

/-- The configuration of input p; an input outside the image is unused. -/
def State.inputConfig (s : State) (p : Nat) : InputConfig :=
  match s.loader.image with
  | some i => i.inputs.getD p ⟨false, false, 0, ⟨.alarm, .manualReset, 0⟩⟩
  | none => ⟨false, false, 0, ⟨.alarm, .manualReset, 0⟩⟩

/-- The mapping of window w (R143). -/
def State.windowMap (s : State) (w : Nat) : Option PointId :=
  match s.loader.image with
  | some i => i.windows.getD w none
  | none => none

/-! Zones (R39, R50) -/

/-- A zone mask holds an owner's zone; no zone matches no mask (R39). -/
def inMask (mask : ZoneMask) (zone : Option Nat) : Bool :=
  match zone with
  | some z => 1 ≤ z && z ≤ 8 && mask.getLsbD (z - 1)
  | none => false

/-- The zone the directory holds for an owner. -/
def State.zoneOf (s : State) (owner : Nat) : Option Nat := (s.entry owner).zone

/-- A point is in view: its owner's directory zone is in the view mask (R156). -/
def State.inView (s : State) (id : PointId) : Bool := inMask s.viewMask (s.zoneOf id.owner)

/-! Link state classes (R106) -/

/-- The link states that apply frames. -/
def LinkState.appliesFrames : LinkState → Bool
  | .joining | .running | .isolated | .conflict | .mismatch => true
  | .configuring | .configFault | .listening => false

/-- The link states in which the station may drive the link (R77). -/
def LinkState.sends : LinkState → Bool
  | .joining | .running => true
  | .configuring | .configFault | .listening | .isolated | .conflict | .mismatch => false

/-- The link states that end CONFLICT and MISMATCH only by a start (R122). -/
def LinkState.barred : LinkState → Bool
  | .conflict | .mismatch => true
  | .configuring | .configFault | .listening | .joining | .running | .isolated => false

/-- The link states before an image is delivered (R174). -/
def LinkState.unconfigured : LinkState → Bool
  | .configuring | .configFault => true
  | .listening | .joining | .running | .isolated | .conflict | .mismatch => false

/-- The receiver is active in every link state other than CONFIGURING and CONFIG FAULT (R78). -/
def State.receives (s : State) : Bool := !s.link.state.unconfigured

/-- The slot counter: 0 except in SLOT k, where it is k (R84). -/
def Link.slotCounter (l : Link) : Nat :=
  match l.position with
  | .slot k => k
  | .unsynchronised => 0
  | .markPhase => 0

/-- The part is supplied and no start holds it (R186). -/
def State.up (s : State) : Bool := s.supply && !s.powerHold && !s.resetnLow

/-- What a command does to a part that is up; while the part is held or unsupplied nothing happens (R186, log entry 23). -/
def whenUp (s : State) (f : State → State) : Host.Outcome State Fault Refusal := .next (if s.up then f s else s)

/-! Free orders (log entry 3) -/

/-- A list with an element put in at a place. -/
def insertAtPlace {α : Type} : Nat → α → List α → List α
  | 0, x, xs => x :: xs
  | _ + 1, x, [] => [x]
  | n + 1, x, y :: ys => y :: insertAtPlace n x ys

/-- The permutation of a list that a number names; every permutation has a number. -/
def permute {α : Type} : Nat → List α → List α
  | _, [] => []
  | n, x :: xs => insertAtPlace (n % (xs.length + 1)) x (permute (n / (xs.length + 1)) xs)

/-- Operations done one after another. -/
def inTurn (ops : List (State → State)) (s : State) : State := ops.foldl (fun s f => f s) s

/-- Operations that the manual lets the part take in either order: a free order of them. One operation alone needs no
choice. -/
def inEitherOrder (ops : List (State → State)) (s : State) : State :=
  if ops.length ≤ 1 then inTurn ops s
  else inTurn (permute (Config.freeOrder s.choices) ops) { s with choices := s.choices + 1 }

/-! The supervisory port's bytes (R163, R164) -/

/-- The address after a data byte (R164). -/
def nextAddress (address : Nat) : Nat :=
  if address = 0x4F then 0x40 else if 0x7F ≤ address then 0x00 else address + 1

/-- The state with the transaction of the port replaced. -/
def setTransaction (t : Transaction) (s : State) : State := s.mapPort (fun p => { p with transaction := t })

/-- The port acts on the bytes that SCK shifts: the part is up and no start has abandoned the transaction (R163, R186). -/
def State.serves (s : State) : Bool := s.up && s.port.transaction ≠ .abandoned

/-- A byte of a transaction acted on, the transaction standing as given after it (R164); one that the port does not shift
in has no effect. -/
def serve (after : Transaction) (f : State → State) (s : State) : State :=
  if s.serves then f (setTransaction after s) else s

/-- What a byte of a transaction brings. -/
def whenServed (after : Transaction) (s : State) (f : State → State) : Host.Outcome State Fault Refusal :=
  .next (serve after f s)

/-- The transaction after a byte written at an address (R164). -/
def afterWrite (address : Nat) : Transaction := .writing (nextAddress address)

/-! The silence action (R148) -/

/-- The stamp that a silence action takes: c.0.0 while a table rebuild to cycle c is in progress, the current stamp at any
other time (R148). -/
def State.silenceStamp (s : State) : Stamp :=
  match s.agreement.rebuildCycle with
  | some c => ⟨c, 0, 0⟩
  | none => s.link.current

/-- The silence action (R148). -/
def silenceAction (s : State) : State := s.mapPanel (fun p => { p with silence := s.silenceStamp })

/-! What falls inside the application of a frame (R40, R44, R148; log entry 36) -/

/-- What falls at each moment inside the application of a frame. -/
abbrev During := Moment → State → State

/-- Nothing falls inside. -/
def nothingInside : During := fun _ s => s

/-! Event flags (R167) -/

/-- The twelve event flags, in the order of their bits (R193). -/
inductive Event where
  | cmddone | newalert | listchg | stalost | stajoin | linkchg | resync | frameerr | qfull | histovf | lockref | cfgflt
  deriving DecidableEq, Repr

/-- The bit of a flag in EVENTS and EVENTMASK (R193). -/
def Event.bit : Event → Nat
  | .cmddone => 0
  | .newalert => 1
  | .listchg => 2
  | .stalost => 3
  | .stajoin => 4
  | .linkchg => 5
  | .resync => 6
  | .frameerr => 7
  | .qfull => 8
  | .histovf => 9
  | .lockref => 10
  | .cfgflt => 11

/-- Setting an event flag; a flag already set stays set (R167). -/
def setEvent (e : Event) (s : State) : State :=
  s.mapPort (fun p => { p with events := p.events ||| ((1 : BitVec 12) <<< e.bit) })

/-- An event flag is set. -/
def State.hasEvent (s : State) (e : Event) : Bool := s.port.events.getLsbD e.bit

/-! The History Log (R160) -/

/-- Appending an entry to a log: below 48 at the end; at 48 the entry at index 16 is dropped and counted (R160). -/
def History.append (h : History) (e : HistoryEntry) : History :=
  if h.entries.length < Config.logPlaces then { h with entries := h.entries ++ [e] }
  else { entries := h.entries.eraseIdx Config.earliestPart ++ [e], overflow := saturate 65535 h.overflow }

/-- Recording an entry; a drop sets HISTOVF (R160). -/
def recordHistory (e : HistoryEntry) (s : State) : State :=
  let s' := { s with history := s.history.append e }
  if s.history.entries.length < Config.logPlaces then s' else setEvent .histovf s'

/-- Recording one of the station's own entries (R159). -/
def recordOwn (kind : HistoryKind) (stamp : Stamp) (count : Option Nat) (s : State) : State :=
  recordHistory { stamp := stamp, kind := kind, station := s.own, count := count } s

/-! Completion of a command (R173) -/

/-- Sixteen bytes of CMDDATA from the output bytes, the unused ones 0, the overrun count last (R173). -/
def completionData (output : List Byte) (overrun : Nat) : Vector Byte 16 :=
  #v[byteAt output 0, byteAt output 1, byteAt output 2, byteAt output 3, byteAt output 4, byteAt output 5,
     byteAt output 6, byteAt output 7, byteAt output 8, byteAt output 9, byteAt output 10, byteAt output 11,
     byteAt output 12, byteAt output 13, byteAt output 14, BitVec.ofNat 8 overrun]

/-- The one step of R173: output, overrun count, result, CMD reads 0, CMDDONE. -/
def complete (result : CommandResult) (output : List Byte) (s : State) : State :=
  setEvent .cmddone (s.mapPort (fun p =>
    { p with running := none, result := result, data := completionData output p.overrun }))

/-! Small link operations -/

/-- Counting an invalid frame (R82), or an OWNED LIST refused for its entries (R134). -/
def countFrameError (s : State) : State :=
  setEvent .frameerr (s.mapLink (fun l => { l with frameErrors := saturate 255 l.frameErrors }))

/-- Counting a slot slip (R91, R92). -/
def countSlip (s : State) : State := s.mapLink (fun l => { l with slips := saturate 255 l.slips })

/-- Setting the current stamp (R99). -/
def setCurrent (t : Stamp) (s : State) : State := s.mapLink (fun l => { l with current := t })

/-- Setting or clearing list owed in the own entry (R112). -/
def setListOwed (b : Bool) (s : State) : State := s.modifyEntry s.own (fun e => { e with listOwed := b })

/-- A change of link state: LINKCHG is set when the state differs, and leaving RUNNING discards the held panel notices
(R106, R68). -/
def setLinkState (new : LinkState) (s : State) : State :=
  if s.link.state = new then s
  else
    let s' := setEvent .linkchg (s.mapLink (fun l => { l with state := new }))
    if s.link.state = .running then s'.mapPanel (fun p => { p with heldAck := none, heldReset := none }) else s'

end Sys2Proof.Machine
end

