-- ==== Sys2Proof/Machine/Points.lean ====
section
/-! DEFINITION. What each record event does to one point record (ch. 1), as functions of the record alone. -/

namespace Sys2Proof.Machine

open Sys2Proof

/-- The outcome a report carries (R12). -/
inductive ReportOutcome where
  | applied | duplicate | stale | ignored
  deriving DecidableEq, Repr

/-- The record events (section 1.3); an ACK-POINT carries the occurrence it asked for (R157). -/
inductive RecordEvent where
  | raise | clear | acknowledge
  | ackPoint (carried : Nat)
  | reset | shelve | unshelve | linkLostRaise | linkLostClear | ownerLostSet | ownerLostClear
  | initialise | replace | restamp | resetValues
  deriving DecidableEq, Repr

/-- A record enters NORMAL: alert stamp absent, first-out clear, all else kept (R11). A NORMAL record is unchanged. -/
def enterNormal (r : PointRecord) : PointRecord :=
  if r.state = .normal then r else { r with state := .normal, alert := none, firstOut := false }

/-- A record enters ALERT with an occurrence and an alert stamp; its last actor becomes absent (R10). -/
def enterAlert (occurrence : Nat) (stamp : Stamp) (r : PointRecord) : PointRecord :=
  { r with state := .alert, occurrence := occurrence, alert := some stamp, lastActor := none }

/-- Adopting carried attributes (R4): a class that becomes ADVISORY ends the annunciation, a group that changes takes
the first-out flag with it. -/
def adopt (a : Attributes) (r : PointRecord) : PointRecord :=
  let r1 := { r with attrs := a }
  let r2 := if a.cls = .advisory ∧ r.attrs.cls ≠ .advisory then enterNormal r1 else r1
  if a.group ≠ r.attrs.group then { r2 with firstOut := false } else r2

/-- The raise column of R9, with R10: NORMAL, RETURNED and RINGBACK go to ALERT; ALERT and ACKED keep their state
(log entry 13). The condition becomes active. -/
def raiseSequence (occurrence : Nat) (stamp : Stamp) (r : PointRecord) : PointRecord :=
  match r.state with
  | .normal => enterAlert occurrence stamp { r with active := true }
  | .returned => enterAlert occurrence stamp { r with active := true }
  | .ringback => enterAlert occurrence stamp { r with active := true }
  | .alert => { r with active := true, occurrence := occurrence }
  | .acked => { r with active := true, occurrence := occurrence }

/-- From ACKED or RETURNED at the end of an alarm: NORMAL under AUTO-RESET, RINGBACK under MANUAL-RESET (R9). -/
def settleSequence (r : PointRecord) : PointRecord :=
  match r.attrs.seq with
  | .autoReset => enterNormal r
  | .manualReset => { r with state := .ringback }

/-- The clear column of R9; the condition becomes inactive. -/
def clearSequence (r : PointRecord) : PointRecord :=
  let r' := { r with active := false }
  match r.state with
  | .alert => { r' with state := .returned }
  | .acked => settleSequence r'
  | .normal => r'
  | .returned => r'
  | .ringback => r'

/-- A RAISE notice applied to its record (R13). -/
def applyRaise (carried : Nat) (a : Attributes) (stamp : Stamp) (old : PointRecord) : PointRecord × ReportOutcome :=
  let r := adopt a old
  let occ := if carried = 0 then nextOccurrence r.occurrence else carried
  if r.active then (r, .duplicate)
  else if r.shelved ∨ r.attrs.cls = .advisory then ({ r with active := true, occurrence := occ }, .applied)
  else (raiseSequence occ stamp r, .applied)

/-- A CLEAR notice applied to its record (R14). -/
def applyClear (carried : Nat) (a : Attributes) (old : PointRecord) : PointRecord × ReportOutcome :=
  let r := adopt a old
  let occ := if carried = 0 then r.occurrence else carried
  if !r.active then (r, .duplicate)
  else if r.shelved ∨ r.attrs.cls = .advisory then ({ r with active := false, occurrence := occ }, .applied)
  else (clearSequence { r with occurrence := occ }, .applied)

/-- The acknowledge event (R15). -/
def applyAcknowledge (actor : Nat) (r : PointRecord) : PointRecord × ReportOutcome :=
  match r.state with
  | .alert => ({ r with state := .acked, lastActor := some actor }, .applied)
  | .returned => ({ settleSequence r with lastActor := some actor }, .applied)
  | .normal => (r, .ignored)
  | .acked => (r, .ignored)
  | .ringback => (r, .ignored)

/-- An ACK-POINT notice (R16): applied when the record is ALERT or RETURNED with the occurrence carried, stale otherwise. -/
def applyAckPoint (carried actor : Nat) (r : PointRecord) : PointRecord × ReportOutcome :=
  if (r.state = .alert ∨ r.state = .returned) ∧ r.occurrence = carried then applyAcknowledge actor r else (r, .stale)

/-- The reset event (R17). -/
def applyReset (actor : Nat) (r : PointRecord) : PointRecord × ReportOutcome :=
  if r.state = .ringback then ({ enterNormal r with lastActor := some actor }, .applied) else (r, .ignored)

/-- A SHELVE notice for a point (R18). -/
def applyShelve (point : Nat) (r : PointRecord) : PointRecord × ReportOutcome :=
  if point = 16 then (r, .ignored)
  else if r.shelved then (r, .duplicate)
  else (enterNormal { r with shelved := true }, .applied)

/-- An UNSHELVE notice for a point (R19): an active point is annunciated as a new occurrence. -/
def applyUnshelve (point : Nat) (stamp : Stamp) (r : PointRecord) : PointRecord × ReportOutcome :=
  if point = 16 then (r, .ignored)
  else if !r.shelved then (r, .duplicate)
  else
    let r' := { r with shelved := false }
    if !r.active then (r', .applied)
    else if r.attrs.cls = .advisory then ({ r' with occurrence := nextOccurrence r.occurrence }, .applied)
    else (raiseSequence (nextOccurrence r.occurrence) stamp r', .applied)

/-- The link-lost raise (R21). -/
def applyLinkLostRaise (stamp : Stamp) (r : PointRecord) : PointRecord × ReportOutcome :=
  if r.active then (r, .duplicate) else (raiseSequence (nextOccurrence r.occurrence) stamp r, .applied)

/-- The link-lost clear (R21). -/
def applyLinkLostClear (r : PointRecord) : PointRecord × ReportOutcome :=
  if r.active then (clearSequence r, .applied) else (r, .duplicate)

/-- Own initialisation of point p (R23): `active` is its input used and filtered active; the stamp is c.(own).(16 + p). -/
def applyInitialise (a : Attributes) (active : Bool) (stamp : Stamp) (_ : PointRecord) : PointRecord × ReportOutcome :=
  let r := { PointRecord.reset with attrs := a }
  if active then
    if a.cls = .advisory then ({ r with active := true, occurrence := 1 }, .applied)
    else ({ r with active := true, occurrence := 1, state := .alert, alert := some stamp }, .applied)
  else (r, .applied)

/-- Whole-record replacement from an OWNED LIST entry, made to obey R6 and R8 (R25). Unlisted and owner-lost are left to
the Alarm List and to R22. -/
def applyReplace (e : ListEntry) (old : PointRecord) : PointRecord × ReportOutcome :=
  let rests := e.state = .normal ∨ e.shelved ∨ e.attrs.cls = .advisory ∨ e.occurrence = 0 ∨ e.alert = stampZero
  ({ old with
      attrs := e.attrs, active := e.active, shelved := e.shelved, occurrence := e.occurrence
      state := if rests then .normal else e.state
      alert := if rests then none else some e.alert
      firstOut := if rests ∨ e.attrs.group = 0 then false else e.firstOut
      lastActor := if e.occurrence = old.occurrence then old.lastActor else none }, .applied)

/-- A restamp (R26). -/
def applyRestamp (stamp : Stamp) (r : PointRecord) : PointRecord × ReportOutcome :=
  if r.state = .normal then (r, .ignored) else ({ r with alert := some stamp }, .applied)

/-- Setting or clearing owner-lost (R22). -/
def applyOwnerLost (b : Bool) (r : PointRecord) : PointRecord × ReportOutcome := ({ r with ownerLost := b }, .applied)

/-- Reset values (R5). -/
def applyResetValues (_ : PointRecord) : PointRecord × ReportOutcome := (PointRecord.reset, .applied)

/-- A point change report (R12): the point, the event, its stamp, actor and outcome, and the record before and after the
event, from which the report's other fields are read. -/
structure Report where
  id : PointId
  event : RecordEvent
  stamp : Stamp
  actor : Option Nat
  outcome : ReportOutcome
  before : PointRecord
  after : PointRecord
  deriving DecidableEq, Repr

/-- First-out released: the event cleared the first-out flag (R12). -/
def Report.firstOutReleased (r : Report) : Bool := r.before.firstOut && !r.after.firstOut

end Sys2Proof.Machine
end

