-- ==== Sys2Proof/Machine/AlarmList.lean ====
section
/-! DEFINITION. The Alarm List (ch. 2): how it follows the reports, its questions and selections, its recomputation. -/

namespace Sys2Proof.Machine

open Sys2Proof

/-- The alert stamp of a point, 0.0.0 where absent. -/
def State.alertOf (s : State) (id : PointId) : Stamp := (s.record id).alert.getD stampZero

/-- A change of the list generation count, which sets LISTCHG (R37). -/
def bumpGeneration (s : State) : State :=
  setEvent .listchg (s.mapList (fun l => { l with generation := (l.generation + 1) % 256 }))

/-- Entries with a point put in at its stamp place: after every earlier stamp, before every later one (R30). -/
def insertByStamp (s : State) (id : PointId) : List PointId → List PointId
  | [] => [id]
  | x :: xs => if Stamp.earlier (s.alertOf id) (s.alertOf x) then id :: x :: xs else x :: insertByStamp s id xs

/-- Insertion of an entry at its stamp place (R30). -/
def listInsert (id : PointId) (s : State) : State :=
  bumpGeneration (s.mapList (fun l => { l with entries := insertByStamp s id l.entries }))

/-- Removal of an entry (R33). -/
def listRemove (id : PointId) (s : State) : State :=
  bumpGeneration (s.mapList (fun l => { l with entries := l.entries.erase id }))

/-- Setting the unlisted flag of a record; the unlisted count rises (R28). -/
def setUnlisted (id : PointId) (s : State) : State :=
  (s.modifyRecord id (fun r => { r with unlisted := true })).mapList
    (fun l => { l with unlistedCount := l.unlistedCount + 1 })

/-- Clearing the unlisted flag of a record that carries it; the unlisted count falls (R28). -/
def clearUnlisted (id : PointId) (s : State) : State :=
  if (s.record id).unlisted then
    (s.modifyRecord id (fun r => { r with unlisted := false })).mapList
      (fun l => { l with unlistedCount := l.unlistedCount - 1 })
  else s

/-- An OVERFLOW entry for the point that lost its place (R157). -/
def recordOverflow (id : PointId) (stamp : Stamp) (s : State) : State :=
  let r := s.record id
  recordHistory { stamp := stamp, kind := .overflow, station := id.owner, point := some id.point,
                  occurrence := some r.occurrence, cls := some r.attrs.cls } s

/-- An entry that an incoming SHUTDOWN point can evict: class ALARM, ACKED or RINGBACK (R31). -/
def evictable (r : PointRecord) : Bool := r.attrs.cls = .alarm && (r.state = .acked || r.state = .ringback)

/-- The victim of an eviction: the evictable entry with the earliest alert stamp, which is the first in list order (R31). -/
def State.victim (s : State) : Option PointId := s.list.entries.find? (fun id => evictable (s.record id))

/-- Eviction: the victim leaves the list unlisted, the entering point takes the place, OVERFLOW names the victim (R31). -/
def evict (victim id : PointId) (stamp : Stamp) (s : State) : State :=
  recordOverflow victim stamp (listInsert id (setUnlisted victim (listRemove victim s)))

/-- Refusal: the entering point is unlisted, OVERFLOW names it (R32). -/
def refuse (id : PointId) (stamp : Stamp) (s : State) : State := recordOverflow id stamp (setUnlisted id s)

/-- A point leaves NORMAL: insertion, or eviction or refusal when the list is full (R30, R31, R32). -/
def listEnter (id : PointId) (stamp : Stamp) (s : State) : State :=
  if s.list.entries.length < Config.listPlaces then listInsert id s
  else if (s.record id).attrs.cls = .shutdown then
    match s.victim with
    | some v => evict v id stamp s
    | none => refuse id stamp s
  else refuse id stamp s

/-- The earlier-stamped of a candidate and the best point so far. -/
def earliestPoint (s : State) (best : Option PointId) (id : PointId) : Option PointId :=
  match best with
  | none => some id
  | some b => if Stamp.earlier (s.alertOf id) (s.alertOf b) then some id else some b

/-- The earliest-stamped unlisted point of a class. -/
def earliestUnlisted (s : State) (c : PointClass) : Option PointId :=
  (allPoints.filter (fun id => (s.record id).unlisted && (s.record id).attrs.cls = c)).foldl (earliestPoint s) none

/-- The point to be admitted: an unlisted SHUTDOWN point before any ALARM point, the earliest alert stamp first (R34). -/
def State.admissible (s : State) : Option PointId :=
  match earliestUnlisted s .shutdown with
  | some id => some id
  | none => earliestUnlisted s .alarm

/-- Admission after a removal (R34). -/
def listAdmit (s : State) : State :=
  if s.list.entries.length < Config.listPlaces ∧ 0 < s.list.unlistedCount then
    match s.admissible with
    | some id => listInsert id (clearUnlisted id s)
    | none => s
  else s

/-- Repositioning to the place of a new alert stamp (R35). -/
def listMove (id : PointId) (s : State) : State :=
  bumpGeneration (s.mapList (fun l => { l with entries := insertByStamp s id (l.entries.erase id) }))

/-- The action of the Alarm List on one report (R29). -/
def listFollow (r : Report) (s : State) : State :=
  let listed := r.id ∈ s.list.entries
  if r.before.state = .normal then
    if r.after.state = .normal then s else listEnter r.id r.stamp s
  else if r.after.state = .normal then
    if listed then listAdmit (listRemove r.id s) else clearUnlisted r.id s
  else if listed then
    let s' := if r.before.alert ≠ r.after.alert then listMove r.id s else s
    if r.before.state ≠ r.after.state then bumpGeneration s' else s'
  else s

/-- The recomputation at a table rebuild (R38). -/
def listRecompute (s : State) : State :=
  let s1 := allPoints.foldl (fun s id =>
    if (s.record id).unlisted then s.modifyRecord id (fun r => { r with unlisted := false }) else s) s
  let s2 := s1.mapList (fun l => { l with entries := [], unlistedCount := 0 })
  let waiting := allPoints.filter (fun id => (s2.record id).state ≠ .normal)
  bumpGeneration (s2.mapList (fun l => { l with entries := waiting.foldl (fun es id => insertByStamp s2 id es) [] }))

/-- A listed entry in ALERT or RETURNED (R40, R41). -/
def acknowledgeable (r : PointRecord) : Bool := r.state = .alert || r.state = .returned

/-- A listed entry in RINGBACK (R40, R42). -/
def resettable (r : PointRecord) : Bool := r.state = .ringback

/-- The newest alert stamp among listed entries that qualify and match a mask (R40). -/
def State.newest (s : State) (qualifies : PointRecord → Bool) (mask : ZoneMask) : Option Stamp :=
  (s.list.entries.filter (fun id => qualifies (s.record id) && inMask mask (s.zoneOf id.owner))).foldl
    (fun best id => laterOf best (s.record id).alert) none

/-- The selection of an ACK-UPTO or RESET-UPTO notice, in list order (R41, R42). -/
def State.selection (s : State) (qualifies : PointRecord → Bool) (mask : ZoneMask) (limit : Stamp) : List PointId :=
  s.list.entries.filter (fun id =>
    qualifies (s.record id) && inMask mask (s.zoneOf id.owner) && !Stamp.earlier limit (s.alertOf id))

end Sys2Proof.Machine
end

