-- ==== Sys2Proof/Machine/Groups.lean ====
section
/-! DEFINITION. The Group and Zone Unit (ch. 3): first-out groups, zone summaries, trip demand and the trip latch. -/

namespace Sys2Proof.Machine

open Sys2Proof

/-! First-out groups -/

/-- The holder of group g (R45). -/
def State.holder (s : State) (g : Nat) : Option PointId := tableGet s.groups.holders (placeOf g 8) none

/-- Making group g ARMED or HELD (R45). -/
def setHolder (g : Nat) (h : Option PointId) (s : State) : State :=
  s.mapGroups (fun u => { u with holders := tableSet u.holders (placeOf g 8) h })

/-- Setting or clearing a record's first-out flag by the unit, with no report (R46, R48). -/
def setFirstOut (id : PointId) (b : Bool) (s : State) : State := s.modifyRecord id (fun r => { r with firstOut := b })

/-- A raise in the sense of R46. -/
def marksFirstOut (r : Report) : Bool :=
  (match r.event with
    | .raise => r.outcome == .applied
    | .unshelve => r.outcome == .applied
    | .linkLostRaise => true
    | _ => false)
  && r.before.state ≠ .alert && r.after.state = .alert

/-- First-out marking on a report (R46). -/
def firstOutMark (r : Report) (s : State) : State :=
  let g := r.after.attrs.group
  if marksFirstOut r ∧ 1 ≤ g ∧ g ≤ 8 ∧ s.holder g = none then setHolder g (some r.id) (setFirstOut r.id true s) else s

/-- Release of one group that the reported point holds and no longer marks (R47). -/
def releaseGroup (id : PointId) (s : State) (g : Nat) : State :=
  if s.holder g = some id ∧ ((s.record id).firstOut = false ∨ (s.record id).attrs.group ≠ g) then setHolder g none s
  else s

/-- The check of R47 after a report. -/
def firstOutRelease (id : PointId) (s : State) : State := [1, 2, 3, 4, 5, 6, 7, 8].foldl (releaseGroup id) s

/-- Settling the claim of a point whose record carries the first-out flag (R48). -/
def firstOutClaim (id : PointId) (s : State) : State :=
  let g := (s.record id).attrs.group
  match s.holder g with
  | none => setHolder g (some id) s
  | some q =>
    if q = id then s
    else if Stamp.earlier ((s.record id).alert.getD stampZero) ((s.record q).alert.getD stampZero) then
      setHolder g (some id) (setFirstOut q false s)
    else setFirstOut id false s

/-- A REPLACE whose record carries the flag: the release check, then the claim (R48). -/
def firstOutReplace (r : Report) (s : State) : State :=
  if r.event = .replace ∧ (s.record r.id).firstOut then firstOutClaim r.id (firstOutRelease r.id s) else s

/-- The recomputation of the groups at a table rebuild (R49). -/
def groupsRecompute (s : State) : State :=
  let s1 := s.mapGroups (fun u => { u with holders := .replicate 8 none })
  allPoints.foldl (fun s id => if (s.record id).firstOut then firstOutClaim id s else s) s1

/-! Zone summaries -/

/-- A state of the ALERT-or-RETURNED pair (R50). -/
def isAlerting (st : PointState) : Bool := st = .alert || st = .returned

/-- A state of the ACKED-or-RINGBACK pair (R50). -/
def isStanding (st : PointState) : Bool := st = .acked || st = .ringback

/-- A count with one taken away where it held before and one added where it holds after. -/
def adjust (before after : Bool) (n : Nat) : Nat :=
  match before, after with
  | true, false => n - 1
  | false, true => n + 1
  | true, true => n
  | false, false => n

/-- The summary of zone z (R50). -/
def State.zone (s : State) (z : Nat) : ZoneSummary := tableGet s.groups.zones (placeOf z 8) ⟨0, 0, 0⟩

/-- The state with the summary of zone z changed. -/
def modifyZone (z : Nat) (f : ZoneSummary → ZoneSummary) (s : State) : State :=
  s.mapGroups (fun u => { u with zones := tableSet u.zones (placeOf z 8) (f (tableGet u.zones (placeOf z 8) ⟨0, 0, 0⟩)) })

/-- The zone summaries on a report (R51). -/
def zoneFollow (r : Report) (s : State) : State :=
  match s.zoneOf r.id.owner with
  | none => s
  | some z => modifyZone z (fun c =>
      { c with alerting := adjust (isAlerting r.before.state) (isAlerting r.after.state) c.alerting
               standing := adjust (isStanding r.before.state) (isStanding r.after.state) c.standing }) s

/-! Trip demand and the trip latch -/

/-- A record is a trip cause under a zone of its owner (R54). -/
def tripCause (s : State) (zone : Option Nat) (id : PointId) (r : PointRecord) : Bool :=
  id.point ≤ 15 && inMask s.tripMask zone && (r.attrs.cls = .shutdown || (r.attrs.cls = .alarm && s.promote))
    && r.active && !r.shelved

/-- A new demand count; the latch sets when demand rises from 0 (R56). -/
def setDemand (n : Nat) (s : State) : State :=
  s.mapGroups (fun u => { u with demand := n, latch := u.latch || (u.demand == 0 && 0 < n) })

/-- The demand count on a report (R55). -/
def demandFollow (r : Report) (s : State) : State :=
  let zone := s.zoneOf r.id.owner
  let before := tripCause s zone r.id r.before
  let after := tripCause s zone r.id r.after
  if before = after then s else setDemand (adjust before after s.groups.demand) s

/-- The local reset action on the trip latch (R57). -/
def localReset (s : State) : State :=
  if s.groups.demand = 0 then s.mapGroups (fun u => { u with latch := false }) else s

/-- The Group and Zone Unit on one report (R46 to R48, R51, R55). -/
def groupsFollow (r : Report) (s : State) : State :=
  firstOutRelease r.id (firstOutReplace r (firstOutMark r (demandFollow r (zoneFollow r s))))

/-! Directory changes (R52, R55) -/

/-- How many of an owner's 17 records have a state that qualifies. -/
def countStates (s : State) (owner : Nat) (qualifies : PointState → Bool) : Nat :=
  (pointsOf owner 17).countP (fun id => qualifies (s.record id).state)

/-- How many of an owner's field records are trip causes under a zone. -/
def countCauses (s : State) (owner : Nat) (zone : Option Nat) : Nat :=
  (pointsOf owner 16).countP (fun id => tripCause s zone id (s.record id))

/-- 1 when entry k is LOST. -/
def lostCount (s : State) (k : Nat) : Nat := if (s.entry k).liveness = .lost then 1 else 0

/-- The 17 records of owner k, and its LOST entry, are taken out of the summary of the zone it held (R52). -/
def leaveZone (k : Nat) (s : State) : State :=
  match s.zoneOf k with
  | some z => modifyZone z (fun c =>
      { alerting := c.alerting - countStates s k isAlerting, standing := c.standing - countStates s k isStanding,
        lost := c.lost - lostCount s k }) s
  | none => s

/-- The 17 records of owner k, and its LOST entry, are added to the summary of a zone (R52). -/
def joinZone (k z : Nat) (s : State) : State :=
  modifyZone z (fun c =>
    { alerting := c.alerting + countStates s k isAlerting, standing := c.standing + countStates s k isStanding,
      lost := c.lost + lostCount s k }) s

/-- The trip causes of owner k counted under a new zone in place of the old one (R55). -/
def moveCauses (k : Nat) (old new : Option Nat) (s : State) : State :=
  if countCauses s k old = countCauses s k new then s
  else setDemand (s.groups.demand - countCauses s k old + countCauses s k new) s

/-- Directory entry k takes a zone or changes it (R52, R55). The entry itself takes the zone here. -/
def takeZone (k z : Nat) (s : State) : State :=
  if s.zoneOf k = some z then s
  else moveCauses k (s.zoneOf k) (some z)
    ((joinZone k z (leaveZone k s)).modifyEntry k (fun e => { e with zone := some z }))

/-- Entry k becomes LOST, or leaves LOST: the lost count of its zone (R52). -/
def adjustLost (k : Nat) (becomesLost : Bool) (s : State) : State :=
  match s.zoneOf k with
  | none => s
  | some z => modifyZone z (fun c => { c with lost := if becomesLost then c.lost + 1 else c.lost - 1 }) s

end Sys2Proof.Machine
end

