-- ==== Sys2Proof/Machine/Reports.lean ====
section
/-! DEFINITION. Record events and their reports (R12): each event is made on its record and its report acted on by every
block before the next. -/

namespace Sys2Proof.Machine

open Sys2Proof

/-- The kind, occurrence and class of the point entry that a report makes when its point is in view (R156). -/
def pointEntry (r : Report) : Option HistoryEntry :=
  let base (kind : HistoryKind) (cls : Option PointClass) : HistoryEntry :=
    { stamp := r.stamp, kind := kind, station := r.id.owner, point := some r.id.point,
      occurrence := some r.after.occurrence, actor := r.actor, cls := cls }
  if r.outcome = .applied then
    match r.event with
    | .raise => some (base .raise (some r.after.attrs.cls))
    | .clear => some (base .clear (some r.after.attrs.cls))
    | .ackPoint _ => some (base .ackPoint none)
    | .shelve => some (base .shelve (some r.after.attrs.cls))
    | .unshelve => some (base .unshelve (some r.after.attrs.cls))
    | .acknowledge => none
    | .reset => none
    | .linkLostRaise => none
    | .linkLostClear => none
    | .ownerLostSet => none
    | .ownerLostClear => none
    | .initialise => none
    | .replace => none
    | .restamp => none
    | .resetValues => none
  else none

/-- The STALE-ACK entry of a stale ACK-POINT notice, made whatever the view (R157). -/
def staleEntry (r : Report) : Option HistoryEntry :=
  match r.event with
  | .ackPoint carried =>
    if r.outcome = .stale then
      some { stamp := r.stamp, kind := .staleAck, station := r.id.owner, point := some r.id.point,
             occurrence := some carried, actor := r.actor }
    else none
  | _ => none

/-- The Point Table's history entry for a report (R155 to R157). -/
def historyFollow (r : Report) (s : State) : State :=
  let s1 := match pointEntry r with
    | some e => if s.inView r.id then recordHistory e s else s
    | none => s
  match staleEntry r with
  | some e => recordHistory e s1
  | none => s1

/-- NEWALERT on a report whose point enters ALERT in view (R167). -/
def newAlertFollow (r : Report) (s : State) : State :=
  if r.before.state ≠ .alert ∧ r.after.state = .alert ∧ s.inView r.id then setEvent .newalert s else s

/-- The announced condition on a report of an own point (R24, R142). -/
def announceFollow (r : Report) (s : State) : State :=
  if r.id.owner = s.own ∧ r.id.point ≤ 15 ∧ (r.event = .raise ∨ r.event = .clear ∨ r.event = .initialise) then
    s.modifyInput r.id.point (fun i => { i with announced := r.after.active })
  else s

/-- Every block acts on a report; the history entry of the event comes before an OVERFLOW of the Alarm List (R155). -/
def deliver (r : Report) (s : State) : State :=
  announceFollow r (newAlertFollow r (groupsFollow r (listFollow r (historyFollow r s))))

/-- The reports of a table treatment: the Group and Zone Unit acts on them, the Alarm List waits for the recomputation and
no history entry is made (R38, R136). -/
def deliverInTreatment (r : Report) (s : State) : State := groupsFollow r s

/-- One record event: the change of the record, then the report handed to a receiver. -/
def recordEventWith (receive : Report → State → State) (id : PointId) (event : RecordEvent) (stamp : Stamp)
    (actor : Option Nat) (change : PointRecord → PointRecord × ReportOutcome) (s : State) : State × ReportOutcome :=
  let old := s.record id
  let new := change old
  (receive ⟨id, event, stamp, actor, new.2, old, new.1⟩ (s.setRecord id new.1), new.2)

/-- One record event, its report acted on by every block (R12). -/
def recordEvent (id : PointId) (event : RecordEvent) (stamp : Stamp) (actor : Option Nat)
    (change : PointRecord → PointRecord × ReportOutcome) (s : State) : State × ReportOutcome :=
  recordEventWith deliver id event stamp actor change s

/-- The same record event brought to several points in turn, with the number reported APPLIED (R41, R42); `done` events of
part `part` of the frame are complete. -/
def recordEvents (during : During) (part : Nat) (event : RecordEvent) (stamp : Stamp) (actor : Option Nat)
    (change : PointRecord → PointRecord × ReportOutcome) : Nat → List PointId → State → State × Nat
  | _, [], s => (s, 0)
  | done, id :: ids, s =>
    let r := recordEvent id event stamp actor change s
    let rest := recordEvents during part event stamp actor change (done + 1) ids (during ⟨part, done + 1⟩ r.1)
    (rest.1, if r.2 = .applied then rest.2 + 1 else rest.2)

/-- Owner-lost set or clear for an owner: one report for each field record whose flag changes (R22). -/
def ownerLost (b : Bool) (owner : Nat) (stamp : Stamp) (s : State) : State :=
  (pointsOf owner 16).foldl (fun s id =>
    if (s.record id).ownerLost = b then s
    else (recordEvent id (if b then .ownerLostSet else .ownerLostClear) stamp none (applyOwnerLost b) s).1) s

end Sys2Proof.Machine
end

