-- ==== Sys2Proof/Machine/Queue.lean ====
section
/-! DEFINITION. The Notice Queue (ch. 4): acceptance, offers and coalescing, held panel notices, removal, withdrawal and
flush. -/

namespace Sys2Proof.Machine

open Sys2Proof

/-- The queue accepts a notice in a link state (R66). -/
def accepts (l : LinkState) (n : Notice) : Bool :=
  match l with
  | .running => true
  | .joining => (match n with
    | .join _ => true
    | .resyncRequest _ => true
    | _ => false)
  | .configuring => false
  | .configFault => false
  | .listening => false
  | .isolated => false
  | .conflict => false
  | .mismatch => false

/-- Appending a notice: age 0, not in flight (R65). -/
def appendNotice (n : Notice) (source : Source) (s : State) : State :=
  { s with notices := s.notices ++
      [{ notice := n, source := source, age := 0, inFlight := false, cmdMark := source = .command }] }

/-- The queue is full (R67). -/
def State.queueFull (s : State) : Bool := Config.queuePlaces ≤ s.notices.length

/-- An offer that needs a place: declined by the link state with no effect (R66), declined for fullness with QFULL (R67),
or taken. The Bool says whether it was taken. -/
def offer (n : Notice) (source : Source) (s : State) : State × Bool :=
  if accepts s.link.state n then
    if s.queueFull then (setEvent .qfull s, false) else (appendNotice n source s, true)
  else (s, false)

/-! Own-point notices (R61, R69, R70) -/

/-- A queued notice is a RAISE or CLEAR for own point p: the condition it gives. -/
def conditionFor (p : Nat) (q : QueuedNotice) : Option Bool :=
  match q.notice with
  | .raise p' _ _ => if p' = p then some true else none
  | .clear p' _ _ => if p' = p then some false else none
  | .ackUpto _ _ => none
  | .ackPoint _ _ _ => none
  | .resetUpto _ _ => none
  | .shelve _ _ => none
  | .unshelve _ _ => none
  | .join _ => none
  | .resyncRequest _ => none

/-- The last queued RAISE or CLEAR for own point p. -/
def State.lastFor (s : State) (p : Nat) : Option QueuedNotice :=
  s.notices.reverse.find? (fun q => (conditionFor p q).isSome)

/-- The projected condition of own point p (R69). -/
def State.projected (s : State) (p : Nat) : Bool :=
  match s.lastFor p with
  | some q => conditionFor p q = some true
  | none => (s.input p).announced

/-- The filtered condition as every other block reads it: UNSETTLED is inactive (R140). -/
def State.filteredActive (s : State) (p : Nat) : Bool := (s.input p).filtered = .active

/-- The Scanner has a change to offer for p: RUNNING, p used, filtered and projected conditions differ (R69). -/
def State.hasChange (s : State) (p : Nat) : Bool :=
  s.link.state = .running && (s.inputConfig p).used && s.filteredActive p != s.projected p

/-- The occurrence of the station's own record of point p. -/
def State.ownOccurrence (s : State) (p : Nat) : Nat := (s.record ⟨s.own, p⟩).occurrence

/-- The occurrence a queued notice carries. -/
def carriedOccurrence (q : QueuedNotice) : Option Nat :=
  match q.notice with
  | .raise _ o _ => some o
  | .clear _ o _ => some o
  | _ => none

/-- What the Scanner and the Panel Unit may have to offer. -/
inductive OfferTask where
  | input (p : Nat)
  | heldAck
  | heldReset
  deriving DecidableEq, Repr

/-- The Scanner's comparison of every input, in point order (R141). -/
def scannerSweep : List OfferTask := (List.range 16).map OfferTask.input

/-- A report of free space: the Scanner and the Panel Unit offer what they hold, in either order (R67, R68); the Scanner's
offers are one run (log entry 42). -/
def freeSpaceOffers (s : State) : State × List OfferTask :=
  let held := (if s.panel.heldAck.isSome then [[OfferTask.heldAck]] else [])
    ++ (if s.panel.heldReset.isSome then [[OfferTask.heldReset]] else [])
  if held = [] then (s, scannerSweep)
  else ({ s with choices := s.choices + 1 }, (permute (Config.freeOrder s.choices) (scannerSweep :: held)).flatten)

/-- A coalescing withdrawal of the queued CLEAR for p (R70): the chatter count rises; free space is reported if the queue
was full, and p itself is compared again. -/
def withdrawClear (p : Nat) (s : State) : State × List OfferTask :=
  let s1 := ({ s with notices := s.notices.eraseP (fun q => conditionFor p q = some false) }).modifyInput p
    (fun i => { i with chatter := saturate 255 i.chatter })
  if s.queueFull then freeSpaceOffers s1 else (s1, [.input p])

/-- The Scanner's offer for input p, when it has a change (R69, R70). -/
def offerInput (p : Nat) (s : State) : State × List OfferTask :=
  if s.hasChange p then
    let attrs := (s.inputConfig p).attrs
    if s.filteredActive p then
      match s.lastFor p with
      | some q => if q.inFlight then (s, []) else withdrawClear p s
      | none => ((offer (.raise p (nextOccurrence (s.ownOccurrence p)) attrs) .input s).1, [])
    else
      match s.lastFor p with
      | some q => ((offer (.clear p ((carriedOccurrence q).getD 0) attrs) .input s).1, [])
      | none => ((offer (.clear p (s.ownOccurrence p) attrs) .input s).1, [])
  else (s, [])

/-- The Panel Unit's offer of its held ACK notice (R68). -/
def offerHeldAck (s : State) : State :=
  match s.panel.heldAck with
  | some n =>
    let r := offer n .ackButton s
    if r.2 then r.1.mapPanel (fun p => { p with heldAck := none }) else r.1
  | none => s

/-- The Panel Unit's offer of its held RESET notice (R68). -/
def offerHeldReset (s : State) : State :=
  match s.panel.heldReset with
  | some n =>
    let r := offer n .resetButton s
    if r.2 then r.1.mapPanel (fun p => { p with heldReset := none }) else r.1
  | none => s

/-- One task of the Scanner or the Panel Unit, with the tasks that a withdrawal brings. -/
def runOffer (t : OfferTask) (s : State) : State × List OfferTask :=
  match t with
  | .input p => offerInput p s
  | .heldAck => (offerHeldAck s, [])
  | .heldReset => (offerHeldReset s, [])

/-- Tasks done one after another; those a withdrawal brings come at once. `fuel` bounds the number of tasks: each input
withdraws at most one CLEAR here, so 400 is never reached. -/
def runOffers : Nat → List OfferTask → State → State
  | 0, _, s => s
  | _ + 1, [], s => s
  | fuel + 1, t :: ts, s =>
    let r := runOffer t s
    runOffers fuel (r.2 ++ ts) r.1

/-- The offers made after notices have left the queue: on a report of free space by every input and the panel, otherwise
by the given points (R67, R69). R69 gives no order for several points; the model takes that of their notices in the queue
(log entry 29). -/
def offersAfter (freed : Bool) (points : List Nat) (s : State) : State :=
  if freed then
    let r := freeSpaceOffers s
    runOffers 400 r.2 r.1
  else runOffers 400 (points.map OfferTask.input) s

/-- The queue reports free space on the passage from one state to the next: its length falls from 12 to below 12 (R67). -/
def freesSpace (before after : State) : Bool := before.queueFull && !after.queueFull

/-- The own points that notices name. -/
def inputPoints (qs : List QueuedNotice) : List Nat :=
  qs.filterMap (fun q => match q.notice with
    | .raise p _ _ => some p
    | .clear p _ _ => some p
    | _ => none)

/-! Notices that leave the queue unsent -/

/-- The effect of a discarded notice on its source, but for re-offers (R71, R76): a command completes ABORTED, a pending
request is dropped (R131). -/
def discardEffect (q : QueuedNotice) (s : State) : State :=
  let s1 := if q.cmdMark then complete .aborted [] s else s
  match q.notice with
  | .resyncRequest t => s1.modifyEntry t (fun e => { e with resync := none })
  | _ => s1

/-- The effects of discarded notices, in queue order. -/
def discardEffects (qs : List QueuedNotice) (s : State) : State := qs.foldl (fun s q => discardEffect q s) s

/-- A flush (R76): every notice is discarded, held panel notices with them; one QUEUE FLUSH entry when there were any. The
states it leaves accept no offer of the Scanner. -/
def flush (stamp : Stamp) (s : State) : State :=
  let s1 := ({ s with notices := [] }).mapPanel (fun p => { p with heldAck := none, heldReset := none })
  if s.notices = [] then s1
  else recordOwn .queueFlush stamp (some s.notices.length) (discardEffects s.notices s1)

/-- Withdrawal of the command's notice (R75): it leaves the queue and the command completes ABORTED. -/
def withdrawCommandNotice (s : State) : State :=
  let s1 := { s with notices := s.notices.eraseP (fun q => q.cmdMark) }
  offersAfter (freesSpace s s1) [] (complete .aborted [] s1)

end Sys2Proof.Machine
end

