-- ==== Sys2Proof/Machine/Inputs.lean ====
section
/-! DEFINITION. The Input Scanner's two commands (ch. 8, section 8.1): INPUT_SAMPLE and INPUT_EVENT. -/

namespace Sys2Proof.Machine

open Sys2Proof

/-- The sampled condition of a contact under the input's polarity (R139). -/
def sampledCondition (closed : Bool) (cfg : InputConfig) : Bool := closed != cfg.activeOpen

/-- A settled filtered condition. -/
def settled (active : Bool) : Filtered := if active then .active else .inactive

/-- One sample of one input (R140): the table of the rule. -/
def sampleFilter (debounce : Nat) (sample : Bool) (i : InputState) : InputState :=
  match i.filtered with
  | .unsettled =>
    let n := if i.count = 0 ∨ sample = i.candidate then i.count + 1 else 1
    if debounce + 1 ≤ n then { i with filtered := settled sample, candidate := sample, count := 0 }
    else { i with candidate := sample, count := n }
  | .active =>
    if sample then { i with count := 0 }
    else if debounce + 1 ≤ i.count + 1 then { i with filtered := .inactive, count := 0 }
    else { i with count := i.count + 1 }
  | .inactive =>
    if !sample then { i with count := 0 }
    else if debounce + 1 ≤ i.count + 1 then { i with filtered := .active, count := 0 }
    else { i with count := i.count + 1 }

/-- The sample of input p, when it is configured used (R139). -/
def sampleInput (closed : BitVec 16) (s : State) (p : Nat) : State :=
  let cfg := s.inputConfig p
  if cfg.used then s.modifyInput p (sampleFilter cfg.debounce (sampledCondition (closed.getLsbD p) cfg)) else s

/-- One sample of every used input, in every link state from LISTENING on (R139). -/
def sampleInputs (closed : BitVec 16) (s : State) : State :=
  if s.receives then (List.range 16).foldl (sampleInput closed) s else s

/-- INPUT_SAMPLE (R139, R140; log entry 12). -/
def execInputSample (closed : BitVec 16) (s : State) : Host.Outcome State Fault Refusal :=
  whenUp s (sampleInputs closed)

/-- The Scanner compares input p and offers, in RUNNING (R141, R69, R70). -/
def inputEvent (point : Nat) (s : State) : State := if point ≤ 15 then runOffers 400 [.input point] s else s

/-- INPUT_EVENT at input p (R141). -/
def execInputEvent (point : Nat) (s : State) : Host.Outcome State Fault Refusal := whenUp s (inputEvent point)

end Sys2Proof.Machine
end

