-- ==== Sys2Proof/Machine/Agreement.lean ====
section
/-! DEFINITION. The application of notices (R60) and the Agreement Unit (ch. 7): digests, comparison, requests, owned lists,
the table treatment. -/

namespace Sys2Proof.Machine

open Sys2Proof

/-! Notices applied -/

/-- What the application of a notice tells the Command Unit (R43, R175). -/
inductive NoticeResult where
  | none
  | outcome (o : ReportOutcome)
  | count (n : Nat)
  deriving DecidableEq, Repr

/-- An ACK-UPTO notice: selection, walk, history entry (R41, R43, R157). -/
def applyAckUpto (during : During) (k : Nat) (stamp : Stamp) (mask : ZoneMask) (limit : Stamp) (s : State) :
    State × NoticeResult :=
  let r := recordEvents during stamp.position .acknowledge stamp (some k) (applyAcknowledge k) 0
    (s.selection acknowledgeable mask limit) s
  (recordHistory { stamp := stamp, kind := .ackUpto, station := k, actor := some k, count := some r.2 } r.1, .count r.2)

/-- A RESET-UPTO notice: selection, walk, history entry (R42, R43, R157). -/
def applyResetUpto (during : During) (k : Nat) (stamp : Stamp) (mask : ZoneMask) (limit : Stamp) (s : State) :
    State × NoticeResult :=
  let r := recordEvents during stamp.position .reset stamp (some k) (applyReset k) 0
    (s.selection resettable mask limit) s
  (recordHistory { stamp := stamp, kind := .resetUpto, station := k, actor := some k, count := some r.2 } r.1, .count r.2)

/-- The wait set as the own JOIN forms it: every LIVE entry but the own one takes join wait 0 (R114). -/
def formWaitSet (s : State) : State :=
  addresses.foldl (fun s k =>
    if k ≠ s.own ∧ (s.entry k).liveness = .live then s.modifyEntry k (fun e => { e with joinWait := some 0 }) else s) s

/-- A JOIN notice (R113); `ownFrame` when the frame is the station's own. -/
def applyJoin (ownFrame needTables : Bool) (s : State) : State :=
  match s.link.state with
  | .running => if needTables then setListOwed true s else s
  | .joining =>
    let s1 := if needTables then setListOwed true s else s
    if ownFrame then
      let s2 := s1.mapLink (fun l => { l with joinSent := some needTables })
      if needTables then formWaitSet s2 else s2
    else s1
  | .configuring => s
  | .configFault => s
  | .listening => s
  | .isolated => s
  | .conflict => s
  | .mismatch => s

/-- A RESYNC-REQUEST notice (R130, R112). -/
def applyResyncRequest (ownFrame : Bool) (target : Nat) (s : State) : State :=
  let s1 := if target = s.own ∧ s.link.state.sends then setListOwed true s else s
  if ownFrame ∧ (s1.entry target).resync.isSome then s1.modifyEntry target (fun e => { e with resync := some 0 }) else s1

/-- A notice of a frame of sender k, applied under its stamp by the block its kind names (R60, R97). Notice i of a frame is
what follows its first i parts, the header among them. -/
def applyNotice (k : Nat) (ownFrame : Bool) (stamp : Stamp) (n : Notice) (s : State) (during : During := nothingInside) :
    State × NoticeResult :=
  match n with
  | .raise p o a =>
    let r := recordEvent ⟨k, p⟩ .raise stamp (some k) (applyRaise o a stamp) s
    (r.1, .outcome r.2)
  | .clear p o a =>
    let r := recordEvent ⟨k, p⟩ .clear stamp (some k) (applyClear o a) s
    (r.1, .outcome r.2)
  | .ackUpto m l => applyAckUpto during k stamp m l s
  | .ackPoint w p o =>
    let r := recordEvent ⟨w, p⟩ (.ackPoint o) stamp (some k) (applyAckPoint o k) s
    (r.1, .outcome r.2)
  | .resetUpto m l => applyResetUpto during k stamp m l s
  | .shelve w p =>
    let r := recordEvent ⟨w, p⟩ .shelve stamp (some k) (applyShelve p) s
    (r.1, .outcome r.2)
  | .unshelve w p =>
    let r := recordEvent ⟨w, p⟩ .unshelve stamp (some k) (applyUnshelve p stamp) s
    (r.1, .outcome r.2)
  | .join need => (applyJoin ownFrame need s, .none)
  | .resyncRequest t => (applyResyncRequest ownFrame t s, .none)

/-- The code of an outcome in CMDDATA (R193). -/
def outcomeCode : ReportOutcome → Byte
  | .applied => 0
  | .duplicate => 1
  | .ignored => 2
  | .stale => 0

/-- The completion of the command whose notice has been applied (R175). -/
def completeApplied (stamp : Stamp) (res : NoticeResult) (s : State) : State :=
  match s.port.running with
  | none => s
  | some c =>
    match c.code, res with
    | .ackp, .outcome o => complete (if o = .stale then .stale else .done) (0 :: stampBytes stamp) s
    | _, .outcome o => complete .done (outcomeCode o :: stampBytes stamp) s
    | _, .count n => complete .done (BitVec.ofNat 8 n :: stampBytes stamp) s
    | _, .none => complete .done (0 :: stampBytes stamp) s

/-- The notices of a SLOT frame of sender k in cycle c, applied in frame order from position `i`, each whole before the
next (R97 stage 3). An ignored notice keeps its position (R59). A notice with the command mark completes the command. -/
def applyNotices (k c : Nat) (ownFrame : Bool) (during : During) : Nat → List (Option Notice × Bool) → State → State
  | _, [], s => s
  | i, (none, _) :: rest, s => applyNotices k c ownFrame during (i + 1) rest (during ⟨i + 1, 0⟩ s)
  | i, (some n, mark) :: rest, s =>
    let stamp : Stamp := ⟨c, k, i⟩
    let r := applyNotice k ownFrame stamp n (setCurrent stamp s) during
    let s' := if mark then completeApplied stamp r.2 r.1 else r.1
    applyNotices k c ownFrame during (i + 1) rest (during ⟨i + 1, 0⟩ s')

/-! Digests (R124, R125) -/

/-- The sixteen entries of an owner, from this station's copies. -/
def State.entriesOf (s : State) (owner : Nat) : List ListEntry :=
  (List.range 16).map (fun p => entryOfRecord p (s.record ⟨owner, p⟩))

/-- The digest of an owner's records as this station holds them (R124). -/
def State.digest (s : State) (owner : Nat) : Check := digestOf (s.entriesOf owner)

/-- The digest of the own SLOT frame by a trial application of its notices to a working copy of the tables (R125), its
directory zones as they stand (log entry 45). -/
def trialDigest (c : Nat) (ns : List Notice) (s : State) : Check :=
  (applyNotices s.own c true nothingInside 1 (ns.map (fun n => (some n, false))) s).digest s.own

/-! Requests and comparison -/

/-- A RESYNC-REQUEST naming target t: offered when entry t is LIVE and none is pending (R129). -/
def requestResync (t : Nat) (s : State) : State :=
  if (s.entry t).liveness = .live ∧ (s.entry t).resync = none then
    let r := offer (.resyncRequest t) .agreement s
    if r.2 then r.1.modifyEntry t (fun e => { e with resync := some 0 }) else r.1
  else s

/-- The action on a mismatch for sender k, by link state (R128). -/
def onMismatch (k : Nat) (s : State) : State :=
  match s.link.state with
  | .running => requestResync k s
  | .joining =>
    if (s.entry k).joinWait.isSome then s else s.modifyEntry k (fun e => { e with stale := true })
  | .isolated => s.modifyEntry k (fun e => { e with stale := true })
  | .conflict => s
  | .mismatch => s
  | .configuring => s
  | .configFault => s
  | .listening => s

/-- Owner-lost clear for an owner whose entry is not LOST (R105). -/
def clearOwnerLost (k : Nat) (s : State) : State :=
  if (s.entry k).liveness = .lost then s else ownerLost false k s.link.current s

/-- The comparison of a header digest with the digest of this station's copies (R127, R128). -/
def compareDigest (k : Nat) (header : Check) (s : State) : State :=
  if s.digest k = header then clearOwnerLost k (s.modifyEntry k (fun e => { e with stale := false }))
  else onMismatch k (setEvent .resync s)

/-- A deferred comparison, if one is present, is made and is then absent (R126). -/
def makeDeferred (s : State) : State :=
  match s.agreement.deferred with
  | some (k, d) => compareDigest k d (s.mapAgreement (fun a => { a with deferred := none }))
  | none => s

/-- Stage 4 of a SLOT frame (R126): the comparison is made at once, or deferred to the list that follows. The station
compares no frame of its own, and a frame carrying its address only in CONFLICT and MISMATCH. -/
def takeDigest (f : SlotFrame) (ownFrame : Bool) (s : State) : State :=
  if ownFrame ∨ (f.sender = s.own ∧ !s.link.state.barred) then s
  else if f.listFollows then s.mapAgreement (fun a => { a with deferred := some (f.sender, f.digest) })
  else compareDigest f.sender f.digest s

/-! Owned lists -/

/-- The entries of a list that passes the checks of R134: every code defined, every point number at its position. -/
def listEntries (f : ListFrame) : Option (List ListEntry) :=
  match allSome f.entries with
  | some es => if es.map (·.point) = List.range 16 then some es else none
  | none => none

/-- A replacement changed the record's state, condition or alert stamp (R159, RESYNC). -/
def visiblyChanged (before after : PointRecord) : Bool :=
  before.state ≠ after.state || before.active ≠ after.active || before.alert ≠ after.alert

/-- The replacements of a list, in point order, each whole before the next, and how many changed something (R135); `done`
of them are complete. -/
def applyReplacements (during : During) (k : Nat) (stamp : Stamp) : Nat → List ListEntry → State → State × Nat
  | _, [], s => (s, 0)
  | done, e :: es, s =>
    let id : PointId := ⟨k, e.point⟩
    let changed := visiblyChanged (s.record id) (applyReplace e (s.record id)).1
    let s1 := (recordEvent id .replace stamp (some k) (applyReplace e) s).1
    let rest := applyReplacements during k stamp (done + 1) es (during ⟨done + 1, 0⟩ s1)
    (rest.1, if changed then rest.2 + 1 else rest.2)

/-- The stamp under which a list is reported: c.k.47 in a slot with cycle confirmed, the current stamp otherwise (R98). -/
def listStamp (s : State) : Stamp :=
  match s.link.position, s.link.cycle with
  | .slot k, some c => if s.link.confirmed then ⟨c, k, 47⟩ else s.link.current
  | _, _ => s.link.current

/-- Application of an OWNED LIST of sender k (R135, R98, R114). That its stamp is the current one from before the first
replacement on is the model's choice (log entry 40). -/
def applyOwnedList (during : During) (k : Nat) (es : List ListEntry) (s : State) : State :=
  let stamp := listStamp s
  let r := applyReplacements during k stamp 0 es (during ⟨0, 0⟩ (setCurrent stamp s))
  let s1 := r.1.modifyEntry k (fun e => { e with resync := none, stale := false })
  let s2 := match s1.agreement.deferred with
    | some (d, _) => if d = k then s1.mapAgreement (fun a => { a with deferred := none }) else s1
    | none => s1
  let s3 := clearOwnerLost k s2
  let s4 := if s3.link.state = .joining then s3.modifyEntry k (fun e => { e with joinWait := none }) else s3
  setEvent .resync (recordHistory { stamp := stamp, kind := .resync, station := k, count := some r.2 } s4)

/-! The table treatment (R136) -/

/-- Steps 1 and 2: reset values for every field record of another owner in table index order, a restamp for every own
field record that is not NORMAL. -/
def treatRecords (c : Nat) (s : State) : State :=
  let s1 := (allPoints.filter (fun id => id.point ≤ 15 && id.owner ≠ s.own)).foldl
    (fun s id => (recordEventWith deliverInTreatment id .resetValues ⟨c, 0, 0⟩ none applyResetValues s).1) s
  (pointsOf s.own 16).foldl
    (fun s id =>
      let stamp : Stamp := ⟨c, s.own, 16 + id.point⟩
      (recordEventWith deliverInTreatment id .restamp stamp none (applyRestamp stamp) s).1) s1

/-- Step 3: pending requests and stale flags are dropped. -/
def dropRequests (s : State) : State :=
  addresses.foldl (fun s k => s.modifyEntry k (fun e => { e with resync := none, stale := false })) s

/-- The silence stamp of a table treatment (R149). -/
def unsilence (s : State) : State := s.mapPanel (fun p => { p with silence := stampZero })

/-- The table treatment for cycle c (R136), with the silence stamp of R149. -/
def tableTreatment (c : Nat) (s : State) : State :=
  let s1 := treatRecords c (s.mapAgreement (fun a => { a with rebuildCycle := some c }))
  let s2 := unsilence (groupsRecompute (listRecompute (dropRequests s1)))
  (recordOwn .rebuild ⟨c, 0, 0⟩ none s2).mapAgreement (fun a => { a with rebuildCycle := none })

end Sys2Proof.Machine
end

