-- ==== Sys2Proof/Machine/Membership.lean ====
section
/-! DEFINITION. The Station Directory and the passages of the link state (ch. 6), the own initialisation (R23) and the table
rebuild (R137). -/

namespace Sys2Proof.Machine

open Sys2Proof

/-! Passages of the link state -/

/-- Every join wait made absent (R107, R110, R117, R120). -/
def emptyWaitSet (s : State) : State :=
  addresses.foldl (fun s k => s.modifyEntry k (fun e => { e with joinWait := none })) s

/-- The own slot gives up what it still had to send; an OWNED LIST that will not follow leaves a slot whose frames all
ended without collision, which returns the own-slot collision count to 0 (R90). -/
def endOwnSlot (s : State) : State :=
  s.mapLink (fun l =>
    { l with sendDue := false, listDue := false, ownCollisions := if l.listDue then 0 else l.ownCollisions })

/-- What every passage out of the link's work gives up: the rest of the own slot, the wait set and list owed (R107, R117,
R120). -/
def dropDuties (s : State) : State := setListOwed false (emptyWaitSet (endOwnSlot s))

/-- A flush under the current stamp (R76, R159). -/
def flushNow (s : State) : State := flush s.link.current s

/-- The Link Controller on entry to LISTENING (R95, R107); a comparison still deferred is not made (R123). -/
def unfollow (s : State) : State :=
  (s.mapLink (fun l =>
    { l with position := .unsynchronised, confirmed := false, quiet := 0, markTimer := .stopped,
             silenceTimer := .stopped, lengthTimer := .stopped, slotEndTimer := .stopped, markCollisions := 0,
             ownCollisions := 0, markSeen := false, joinSent := none })).mapAgreement
    (fun a => { a with deferred := none })

/-- Entry to LISTENING (R107, R95). -/
def enterListening (s : State) : State := flushNow (unfollow (dropDuties (setLinkState .listening s)))

/-- The Link Controller on entry to JOINING (R110); the station is not entitled to send marks until its JOIN is sent
(R85). -/
def prepareJoin (s : State) : State :=
  (emptyWaitSet (setLinkState .joining s)).mapLink (fun l =>
    { l with quiet := 0, markTimer := .stopped, joinSent := none, sendDue := false })

/-- The JOIN notice appended, and list owed set in the own entry (R110, R112). -/
def queueJoin (needTables : Bool) (s : State) : State := setListOwed true (appendNotice (.join needTables) .link s)

/-- Entry to JOINING (R110). -/
def enterJoining (s : State) : State := queueJoin s.link.tablesNeeded (prepareJoin s)

/-- The requests for stale owners at entry to RUNNING, in ascending address order (R132). -/
def requestStale (s : State) : State :=
  addresses.foldl (fun s k =>
    if (s.entry k).stale then requestResync k (s.modifyEntry k (fun e => { e with stale := false })) else s) s

/-- Entry to RUNNING from JOINING (R116, R132, R141): tables needed, the wait set, then the Scanner's comparison and the
requests for stale owners, whose notices come in either order, each block's in one run (log entry 42). -/
def enterRunning (s : State) : State :=
  let s1 := emptyWaitSet (setLinkState .running s)
  let s2 := s1.mapLink (fun l =>
    { l with tablesNeeded := if l.joinSent = some true then false else l.tablesNeeded, joinSent := none })
  if addresses.any (fun k => (s2.entry k).stale) then
    inEitherOrder [runOffers 400 scannerSweep, requestStale] s2
  else runOffers 400 scannerSweep s2

/-- The mark timer stops, and a JOIN sent no longer counts (R117, R120). -/
def stopMarks (s : State) : State := s.mapLink (fun l => { l with markTimer := .stopped, joinSent := none })

/-- The history entry of a passage, under the current stamp (R106, R159). -/
def recordPassage (kind : HistoryKind) (s : State) : State := recordOwn kind s.link.current none s

/-- What entry to ISOLATED, CONFLICT and MISMATCH have in common: the mark timer stops, list owed and the wait set are
cleared, the queue is flushed and the state's history entry is made (R117, R120, R121). The flush's entry and the state's
own entry come in either order (R155). The passage from ISOLATED to CONFLICT or MISMATCH makes no REJOIN entry, which R106's
table alone would ask for (log entry 32). -/
def leaveLink (new : LinkState) (kind : HistoryKind) (s : State) : State :=
  let s1 := stopMarks (dropDuties (setLinkState new s))
  if s1.notices = [] then flushNow (recordPassage kind s1) else inEitherOrder [recordPassage kind, flushNow] s1

/-- Entry to ISOLATED with the rejoin delay of the isolation; 0 is no delay (R117, R177, R179). -/
def enterIsolated (delay : Nat) (s : State) : State :=
  (leaveLink .isolated .isolate s).mapPort (fun p =>
    { p with modal := .isolated (if delay = 0 then none else some delay) })

/-- The modal state when the link leaves ISOLATED for CONFLICT or MISMATCH (R179). -/
def endModalIsolation (s : State) : State :=
  match s.port.modal with
  | .isolated _ => s.mapPort (fun p => { p with modal := .none })
  | .none => s
  | .lampTest _ => s

/-- The states from which CONFLICT and MISMATCH are entered (R120, R121). -/
def LinkState.mayBeBarred : LinkState → Bool
  | .listening | .joining | .running | .isolated => true
  | .configuring | .configFault | .conflict | .mismatch => false

/-- Entry to CONFLICT (R120); a station in CONFLICT or MISMATCH stays as it is. -/
def enterConflict (s : State) : State :=
  if s.link.state.mayBeBarred then endModalIsolation (leaveLink .conflict .conflict s) else s

/-- Entry to MISMATCH (R121); a station in CONFLICT or MISMATCH stays as it is. -/
def enterMismatch (s : State) : State :=
  if s.link.state.mayBeBarred then endModalIsolation (leaveLink .mismatch .mismatch s) else s

/-- A rejoin request, taken in ISOLATED (R119): the REJOIN entry, then JOINING. -/
def rejoin (s : State) : State :=
  if s.link.state = .isolated then enterJoining (recordOwn .rejoin s.link.current none s) else s

/-- The table rebuild on a discontinuity to cycle c (R137, R94): the treatment, the flush, tables needed, JOINING entered
anew from RUNNING and JOINING; then c becomes current. -/
def tableRebuild (c : Nat) (s : State) : State :=
  let s1 := flush ⟨c, 0, 0⟩ (tableTreatment c (makeDeferred s))
  let s2 := s1.mapLink (fun l => { l with tablesNeeded := true })
  let s3 := if s2.link.state.sends then enterJoining s2 else s2
  s3.mapLink (fun l => { l with cycle := some c, current := ⟨c, 0, 0⟩ })

/-! Own initialisation (R23) -/

/-- Own initialisation of one point in cycle c. -/
def initialisePoint (c : Nat) (s : State) (p : Nat) : State :=
  let cfg := s.inputConfig p
  let stamp : Stamp := ⟨c, s.own, 16 + p⟩
  (recordEvent ⟨s.own, p⟩ .initialise stamp none
    (applyInitialise cfg.attrs (cfg.used && s.filteredActive p) stamp) s).1

/-- Own initialisation in cycle c; own initialised is set (R23, R111). The spec gives the sixteen points no order; the model
takes point order (log entry 38). -/
def ownInitialisation (c : Nat) (s : State) : State :=
  ((List.range 16).foldl (initialisePoint c) s).mapLink (fun l => { l with ownInitialised := true })

/-! The directory -/

/-- The link-lost raise of owner k under its silent slot's stamp (R103, R21). -/
def linkLostRaise (k : Nat) (stamp : Stamp) (s : State) : State :=
  (recordEvent ⟨k, 16⟩ .linkLostRaise stamp none (applyLinkLostRaise stamp) s).1

/-- The link-lost clear of owner k (R104, R21). -/
def linkLostClear (k : Nat) (stamp : Stamp) (s : State) : State :=
  (recordEvent ⟨k, 16⟩ .linkLostClear stamp none applyLinkLostClear s).1

/-- Entry k becomes LOST at the silent slot with this stamp (R103). The LOST entry and the raise come in either order,
which shows only when the raise makes an OVERFLOW entry; the occurrence recorded is the raise's (R158). -/
def becomeLost (k : Nat) (stamp : Stamp) (s : State) : State :=
  let s1 := s.modifyEntry k (fun e => { e with liveness := .lost, joinWait := none })
  let s2 := setEvent .stalost (adjustLost k true s1)
  let occurrence := (applyLinkLostRaise stamp (s2.record ⟨k, 16⟩)).1.occurrence
  let raise := fun s : State => ownerLost true k stamp (linkLostRaise k stamp s)
  let log := recordHistory { stamp := stamp, kind := .lost, station := k, point := some 16, occurrence := some occurrence }
  if s2.list.entries.length < Config.listPlaces then log (raise s2) else inEitherOrder [raise, log] s2

/-- The report of silent slot k of cycle c to the directory (R101). -/
def directorySilent (k : Nat) (stamp : Stamp) (s : State) : State :=
  match (s.entry k).liveness with
  | .live => s.modifyEntry k (fun e => { e with liveness := .silent1 })
  | .silent1 => s.modifyEntry k (fun e => { e with liveness := .silent2 })
  | .silent2 => becomeLost k stamp s
  | .unknown => s
  | .lost => s

/-- Entry k leaves LOST (R104): the link-lost clear under c.k.0, the JOINED entry, STAJOIN, the lost count. -/
def leaveLost (k : Nat) (stamp : Stamp) (s : State) : State :=
  let s1 := linkLostClear k stamp (adjustLost k false (s.modifyEntry k (fun e => { e with liveness := .live })))
  let occurrence := (s1.record ⟨k, 16⟩).occurrence
  setEvent .stajoin (recordHistory
    { stamp := stamp, kind := .joined, station := k, point := some 16, occurrence := some occurrence } s1)

/-- An entry that becomes LIVE from UNKNOWN or LOST joins the wait set of a station whose own JOIN, with need-tables set,
has been applied (R114). -/
def joinWaitSet (k : Nat) (s : State) : State :=
  if s.link.state = .joining ∧ s.link.joinSent = some true ∧ k ≠ s.own ∧ (s.entry k).joinWait = none then
    s.modifyEntry k (fun e => { e with joinWait := some 0 })
  else s

/-- Stage 2 of a SLOT frame: entry k becomes LIVE and takes cycle, digest and zone (R101, R102, R104, R52). -/
def directoryHeader (f : SlotFrame) (c : Nat) (s : State) : State :=
  let k := f.sender
  let s1 := s.modifyEntry k (fun e => { e with lastCycle := some c, digest := some f.digest })
  let s2 := if 1 ≤ f.zone ∧ f.zone ≤ 8 then takeZone k f.zone s1 else s1
  match (s2.entry k).liveness with
  | .unknown => joinWaitSet k (setEvent .stajoin (s2.modifyEntry k (fun e => { e with liveness := .live })))
  | .lost => joinWaitSet k (leaveLost k ⟨c, k, 0⟩ s2)
  | .live => s2
  | .silent1 => s2.modifyEntry k (fun e => { e with liveness := .live })
  | .silent2 => s2.modifyEntry k (fun e => { e with liveness := .live })

/-! The boundaries of joining at a MARK (R115, R116) -/

/-- The join wait of k at a MARK of cycle c; at 3 it is a join lapse (R115). -/
def ageJoinWait (c k : Nat) (s : State) : State :=
  if s.link.state = .joining then
    match (s.entry k).joinWait with
    | none => s
    | some w =>
      if w + 1 < Config.lapseAge then s.modifyEntry k (fun e => { e with joinWait := some (w + 1) })
      else
        requestResync k (recordHistory { stamp := ⟨c, 0, 0⟩, kind := .lapse, station := k }
          (s.modifyEntry k (fun e => { e with joinWait := some 0 })))
  else s

/-- The pending age of target t at a MARK of cycle c; at 3 it is a lapse (R131). -/
def agePending (c t : Nat) (s : State) : State :=
  match (s.entry t).resync with
  | none => s
  | some a =>
    if a + 1 < Config.lapseAge then s.modifyEntry t (fun e => { e with resync := some (a + 1) })
    else
      let s1 := (s.modifyEntry t (fun e => { e with resync := none })).mapAgreement
        (fun g => { g with lapses := saturate 255 g.lapses })
      setEvent .resync (recordHistory
        { stamp := ⟨c, 0, 0⟩, kind := .lapse, station := t, count := some s1.agreement.lapses } s1)

/-- A joining station may enter RUNNING at this MARK (R116). -/
def State.joinComplete (s : State) : Bool :=
  s.link.state = .joining &&
    match s.link.joinSent with
    | none => false
    | some true => addresses.all (fun k => (s.entry k).joinWait.isNone)
    | some false => true

/-- Entry to RUNNING at a MARK, when the join conditions hold (R116). -/
def runIfJoined (s : State) : State := if s.joinComplete then enterRunning s else s

/-- The aging of the queue at a MARK of cycle c (R71). A JOIN discarded by age is appended anew (R110) before the Scanner
and the Panel Unit offer again, so that it has the place it left (R65, log entry 22). -/
def ageQueue (c : Nat) (s : State) : State :=
  let aged := s.notices.map (fun q => { q with age := q.age + 1 })
  let gone := aged.filter (fun q => Config.noticeAgeLimit ≤ q.age)
  let s1 : State := { s with notices := aged.filter (fun q => q.age < Config.noticeAgeLimit) }
  if gone = [] then s1
  else
    let s2 := discardEffects gone (recordOwn .queueAged ⟨c, 0, 0⟩ (some gone.length) s1)
    let joins := gone.filterMap (fun q => match q.notice with
      | .join need => some need
      | _ => none)
    let s3 := joins.foldl (fun s need => appendNotice (.join need) .link s) s2
    offersAfter (freesSpace s s1) (inputPoints gone) s3

/-- A part of the MARK's work does more than count: a notice or a request runs out, or the station enters RUNNING. -/
def State.markIsLoud (s : State) : Bool :=
  s.notices.any (fun q => Config.noticeAgeLimit ≤ q.age + 1)
    || addresses.any (fun k => Config.lapseAge ≤ (s.entry k).resync.getD 0 + 1)
    || (s.link.state = .joining && addresses.any (fun k => Config.lapseAge ≤ (s.entry k).joinWait.getD 0 + 1))
    || s.joinComplete

/-- What the parties of R96 do at a MARK of cycle c, one operation for each thing aged. -/
def markTasks (c : Nat) : List (State → State) :=
  ageQueue c :: addresses.map (agePending c) ++ addresses.map (ageJoinWait c) ++ [runIfJoined]

/-- The parties of R96 act on the MARK in either order; when none of them does more than count, every order gives the
same. A station in MISMATCH ages neither notices nor requests (R122, R131). -/
def markParties (c : Nat) (s : State) : State :=
  if s.link.state = .mismatch then s
  else if s.markIsLoud then inEitherOrder (markTasks c) s else inTurn (markTasks c) s

end Sys2Proof.Machine
end

