-- ==== Sys2Proof/Machine/LinkCycle.lean ====
section
/-! DEFINITION. The link cycle (ch. 5): frame starts and ends, slots and the mark phase, cycle numbers, the application of
frames, sending and collisions. -/

namespace Sys2Proof.Machine

open Sys2Proof

/-! Frame starts, slots and the mark phase -/

/-- The station may send MARKs: RUNNING, or JOINING with its JOIN sent (R85). -/
def State.entitled (s : State) : Bool :=
  s.link.state = .running || (s.link.state = .joining && s.link.joinSent.isSome)

/-- What a frame start does to the timers: the quiet timer restarts, the mark timer, the silence timer and the slot-end
interval stop (R78, R85, R88, R89, R108). -/
def startFrame (s : State) : State :=
  s.mapLink (fun l =>
    { l with reception := .frame, quiet := 0, markTimer := .stopped, silenceTimer := .stopped, slotEndTimer := .stopped })

/-- The frame start of a frame that ends with none in reception is taken with its end (log entry 7). -/
def ensureStarted (s : State) : State := if s.link.reception = .idle then startFrame s else s

/-- Slot k begins: its silence and length timers start; in the own slot of a station in RUNNING or JOINING with cycle
confirmed the SLOT frame is scheduled (R88, R90). -/
def beginSlot (k : Nat) (s : State) : State :=
  s.mapLink (fun l =>
    { l with position := .slot k, silenceTimer := .runningToward Config.silenceLimit,
             lengthTimer := .runningToward Config.slotLimit, slotEndTimer := .stopped,
             sendDue := k = s.own && l.state.sends && l.confirmed })

/-- The mark phase begins; an entitled station starts its mark timer (R85). -/
def beginMarkPhase (s : State) : State :=
  s.mapLink (fun l =>
    { l with position := .markPhase, silenceTimer := .stopped, lengthTimer := .stopped, slotEndTimer := .stopped,
             markTimer := if s.entitled then .runningToward (Config.markDelay s.own) else .stopped })

/-- The slot in progress ends: a comparison still deferred is made, then the next slot or the mark phase begins
(R89, R126). -/
def endSlot (k : Nat) (s : State) : State :=
  let s1 := endOwnSlot (makeDeferred s)
  if k < s1.slots then beginSlot (k + 1) s1 else beginMarkPhase s1

/-- A frame that presets no slot counter has ended: in a slot its 24 bt interval starts; in the mark phase it is taken for
the cycle's MARK, which the station could not read (R82, R87, R89). -/
def endUnreadFrame (s : State) : State :=
  let s1 := s.mapLink (fun l => { l with reception := .idle })
  match s1.link.position with
  | .slot _ => s1.mapLink (fun l => { l with slotEndTimer := .runningToward Config.slotEndGap })
  | .markPhase => beginSlot 1 (s1.mapLink (fun l => { l with confirmed := false }))
  | .unsynchronised => s1

/-- A frame ends invalid (R82); the mixed frame after an own MARK collision leaves the mark phase as it is (R86). -/
def endInvalidFrame (s : State) : State :=
  let s1 := countFrameError s
  if s.link.reception = .mixed then s1.mapLink (fun l => { l with reception := .idle })
  else endUnreadFrame (ensureStarted s1)

/-- The preset of a SLOT frame of sender k (R91): a slip when the counter held another value; the frame's end starts the
24 bt interval. -/
def presetSlot (k : Nat) (s : State) : State :=
  let s1 := if s.link.slotCounter ≠ k then countSlip s else s
  s1.mapLink (fun l =>
    { l with position := .slot k, silenceTimer := .stopped, slotEndTimer := .runningToward Config.slotEndGap,
             lengthTimer := if l.lengthTimer = .stopped then .runningToward Config.slotLimit else l.lengthTimer })

/-- The preset of a MARK (R91): slot 1 begins; a slip when the MARK of a peer ends outside the mark phase. -/
def presetMark (ownFrame : Bool) (s : State) : State :=
  beginSlot 1 (if ownFrame ∨ s.link.position = .markPhase then s else countSlip s)

/-- Making a frame's cycle number current and confirmed (R84, R93, R95); the number 0, which no PB-24 sends, is taken as
carried (log entry 35). -/
def takeCycle (c : Nat) (s : State) : State := s.mapLink (fun l => { l with cycle := some c, confirmed := true })

/-- A cycle number settled before its frame is applied (R93, R94): a discontinuity brings a table rebuild; while no number
is current there is no comparison (R108). A SLOT frame may carry the current number, a MARK must carry a greater one. -/
def settleCycle (isMark : Bool) (c : Nat) (s : State) : State :=
  match s.link.cycle with
  | none => takeCycle c s
  | some now => if now < c ∨ (c = now ∧ !isMark) then takeCycle c s else takeCycle c (tableRebuild c s)

/-- The station is to follow the cycle without applying frames: LISTENING, or UNSYNCHRONISED at the frame's end
(R83, R95). -/
def State.followsOnly (s : State) (positionAtEnd : Position) : Bool :=
  positionAtEnd = .unsynchronised || !s.link.state.appliesFrames

/-- Sender equal to the own address in a frame the station did not send (R83). -/
def examineSender (sender : Nat) (ownFrame : Bool) (s : State) : State :=
  if sender = s.own ∧ !ownFrame then enterConflict s else s

/-! MARK frames (R96) -/

/-- Application of a MARK of cycle c, its number settled (R96, R99, R102). -/
def applyMark (f : MarkFrame) (ownFrame : Bool) (s : State) : State :=
  let s1 := takeCycle f.cycle (presetMark ownFrame s)
  let s2 := beginSlot 1 s1
  let s3 := s2.mapLink (fun l => { l with current := ⟨f.cycle, 0, 0⟩, markCollisions := 0 })
  markParties f.cycle (s3.modifyEntry f.sender (fun e => { e with lastCycle := some f.cycle }))

/-- The second valid MARK heard in LISTENING (R107): JOINING is entered and the MARK is its first frame; a MARK not later
than the stamps kept from an earlier join is a discontinuity. -/
def joinAtMark (f : MarkFrame) (s : State) : State :=
  let s1 := (enterJoining s).mapLink (fun l => { l with cycle := some f.cycle })
  let s2 := if s1.link.current ≠ stampZero ∧ f.cycle ≤ s1.link.current.cycle then tableRebuild f.cycle s1 else s1
  applyMark f false s2

/-- A MARK followed and not applied (R95). -/
def followMark (f : MarkFrame) (s : State) : State :=
  let s1 := beginSlot 1 (takeCycle f.cycle (presetMark false s))
  if s1.link.state = .listening then s1.mapLink (fun l => { l with markSeen := true }) else s1

/-- A valid MARK of a peer ends (R83, R87, R93 to R96, R107). -/
def receiveMark (f : MarkFrame) (s : State) : State :=
  let s1 := makeDeferred (ensureStarted s)
  let position := s1.link.position
  let s2 := (examineSender f.sender false s1).mapLink (fun l => { l with reception := .idle, markTimer := .stopped })
  if f.slots ≠ s2.slots then endUnreadFrame (enterMismatch s2)
  else if s2.link.state = .listening ∧ s2.link.markSeen then joinAtMark f s2
  else if s2.followsOnly position then followMark f s2
  else applyMark f false (settleCycle true f.cycle s2)

/-! SLOT frames (R97) -/

/-- A SLOT frame of the current cycle that is out of order (R92). -/
def State.outOfOrder (s : State) (f : SlotFrame) : Bool :=
  s.link.cycle = some f.cycle && !Stamp.earlier s.link.current ⟨f.cycle, f.sender, 1⟩

/-- Stages 1 to 5 of a SLOT frame, its cycle settled; each notice with its command mark (R97, R99). The header is the first
of its parts, the notices follow (log entry 36). -/
def applySlot (f : SlotFrame) (ownFrame : Bool) (during : During) (notices : List (Option Notice × Bool)) (s : State) :
    State :=
  let s1 := during ⟨1, 0⟩ (directoryHeader f f.cycle (during ⟨0, 0⟩ (presetSlot f.sender s)))
  let s2 := applyNotices f.sender f.cycle ownFrame during 1 notices s1
  setCurrent ⟨f.cycle, f.sender, 47⟩ (takeDigest f ownFrame s2)

/-- A valid SLOT frame of a peer ends (R83, R87, R91 to R95, R97). -/
def receiveSlot (during : During) (f : SlotFrame) (s : State) : State :=
  let s1 := makeDeferred (ensureStarted s)
  let position := s1.link.position
  let s2 := (examineSender f.sender false s1).mapLink (fun l => { l with reception := .idle, markTimer := .stopped })
  if s2.followsOnly position then presetSlot f.sender (takeCycle f.cycle s2)
  else if s2.outOfOrder f then endUnreadFrame (countSlip s2)
  else applySlot f false during (f.notices.map (fun n => (n, false))) (settleCycle false f.cycle s2)

/-! OWNED LIST frames (R98) -/

/-- A valid OWNED LIST reaches the Agreement Unit: skipped when it is the station's own outside CONFLICT and MISMATCH,
counted as a frame error when an entry is out of range, applied otherwise (R134). -/
def takeOwnedList (during : During) (f : ListFrame) (s : State) : State :=
  if f.sender = s.own ∧ !s.link.state.barred then s
  else match listEntries f with
    | some es => applyOwnedList during f.sender es s
    | none => countFrameError s

/-- A valid OWNED LIST of a peer ends (R83, R87, R98). -/
def receiveList (during : During) (f : ListFrame) (s : State) : State :=
  let s1 := ensureStarted s
  let position := s1.link.position
  let s2 := endUnreadFrame ((examineSender f.sender false s1).mapLink (fun l => { l with markTimer := .stopped }))
  if s2.followsOnly position then s2 else takeOwnedList during f s2

/-- A frame of another sender ends: what the receiver makes of its bytes decides (R82, log entry 7). While the station
sends, the frame that can end is its own, which other commands end (log entry 1). -/
def receiveBytes (during : During) (bytes : List Byte) (s : State) : State :=
  if !s.receives ∨ s.link.sending.isSome then s
  else match judge s.slots bytes with
    | .mark f => receiveMark f s
    | .slot f => receiveSlot during f s
    | .list f => receiveList during f s
    | .invalid => endInvalidFrame s

/-! Sending -/

/-- The isolation that waits for the end of an own frame (R117, R177): taken in RUNNING and JOINING, declined when the
station has entered CONFLICT. -/
def takeWaitingIsolation (s : State) : State :=
  match s.port.running with
  | none => s
  | some c =>
    if c.code = .isol then
      if s.link.state.sends then complete .done [] (enterIsolated (byteAt c.inputs.toList 0).toNat s)
      else complete .refused [] s
    else s

/-- An isolation waits for the end of an own frame (R177). -/
def State.isolationWaits (s : State) : Bool :=
  match s.port.running with
  | some c => c.code = .isol
  | none => false

/-- Starting to send a frame of the station's own; its beginning is a frame start like any other (R77, R78), and something is
then in reception also after a collision in which no start bit was seen (R79, log entry 39). -/
def startSending (f : Sending) (s : State) : State :=
  (startFrame s).mapLink (fun l => { l with sending := some f })

/-- The MARK that the station sends: its address, its S, the cycle number after the last one, or 1 (R85, R108). -/
def State.nextMark (s : State) : MarkFrame :=
  { sender := s.own, slots := s.slots, cycle := match s.link.cycle with
      | some c => nextCycle c
      | none => 1 }

/-- Notices handed over to the frame: the first six, marked in flight (R72). -/
def handOver (s : State) : State :=
  { s with notices := (s.notices.take Config.noticesPerFrame).map (fun q => { q with inFlight := true })
      ++ s.notices.drop Config.noticesPerFrame }

/-- The in-flight notices, which stand at the head of the queue (R72). -/
def State.inFlight (s : State) : List QueuedNotice := s.notices.filter (fun q => q.inFlight)

/-- A queued notice is a JOIN. -/
def isJoin (q : QueuedNotice) : Bool :=
  match q.notice with
  | .join _ => true
  | _ => false

/-- What the founder does in its first own slot of cycle 1, before its frame is formed (R108, R138). That it does so also when
it has left RUNNING before that slot is the model's choice (log entry 41). -/
def foundersSlot (s : State) : State :=
  let s1 := s.mapLink (fun l => { l with foundingSlot := false })
  if s.link.foundingSlot ∧ s.link.cycle = some 1 then
    if s.link.ownInitialised then tableTreatment 1 s1 else ownInitialisation 1 s1
  else s1

/-- Forming and sending the own SLOT frame of cycle c (R72, R90, R111, R125). Own initialised alone decides whether a JOIN
frame initialises, also at a rejoin of a station isolated before its first JOIN was sent (R106, R111; log entry 33). The
trial takes the directory zones as they stand, without this frame's own header (log entry 45). -/
def formSlotFrame (c : Nat) (s : State) : State :=
  let s1 := handOver s
  let s2 := if s1.inFlight.any isJoin ∧ !s1.link.ownInitialised then ownInitialisation c s1 else s1
  let notices := s2.inFlight.map (·.notice)
  let digest := trialDigest c notices s2
  let frame : SlotFrame :=
    { sender := s2.own, zone := s2.ownZone, cycle := c, listFollows := (s2.entry s2.own).listOwed, digest := digest,
      notices := notices.map some }
  startSending (.slot frame) (s2.mapAgreement (fun a => { a with trial := some digest }))

/-- 16 bt into the own slot (R90): the scheduled SLOT frame is sent unless a frame start has been detected in the slot. -/
def sendSlotFrame (s : State) : State :=
  match s.link.cycle with
  | some c =>
    if s.link.sendDue ∧ s.link.state.sends ∧ s.link.position = .slot s.own ∧ s.link.sending = none then
      let s1 := foundersSlot (s.mapLink (fun l => { l with sendDue := false }))
      if s.link.silenceTimer = .stopped ∨ s.link.reception ≠ .idle then s1 else formSlotFrame c s1
    else s
  | none => s

/-- The end of an own frame on the line: nothing is being sent and nothing is in reception. -/
def endSending (s : State) : State := s.mapLink (fun l => { l with sending := none, reception := .idle })

/-- The own SLOT frame applied at its end as any frame is, its notices given with their command marks (R97); the trial
digest is given up and the owner-lost flags of the own points clear (R105, R125). -/
def applyOwnSlot (during : During) (f : SlotFrame) (notices : List QueuedNotice) (s : State) : State :=
  let s1 := settleCycle false f.cycle (endSending s)
  let s2 := applySlot f true during (notices.map (fun q => (some q.notice, q.cmdMark))) s1
  clearOwnerLost s2.own (s2.mapAgreement (fun a => { a with trial := none }))

/-- The in-flight notices leave the queue (R73). -/
def removeInFlight (s : State) : State := { s with notices := s.notices.filter (fun q => !q.inFlight) }

/-- The outcome of the own slot so far: an OWNED LIST follows, or every frame of the slot has ended without collision
(R90). -/
def slotFrameDone (listFollows : Bool) (s : State) : State :=
  s.mapLink (fun l =>
    { l with listDue := listFollows, ownCollisions := if listFollows then l.ownCollisions else 0 })

/-- The own SLOT frame applied and its notices removed from the queue, in the order given, with whether the removal frees
space (R67, R73, R97). -/
def applyAndRemove (during : During) (removedFirst : Bool) (f : SlotFrame) (s : State) : State × Bool :=
  if removedFirst then
    let s1 := removeInFlight s
    (applyOwnSlot during f s.inFlight s1, freesSpace s s1)
  else
    let s1 := applyOwnSlot during f s.inFlight s
    let s2 := removeInFlight s1
    (s2, freesSpace s1 s2)

/-- The own SLOT frame ends without collision (R73, R97, R105, R125): it is applied, its notices leave the queue, the
waiting command completes, the Scanner and the Panel Unit offer again, and a waiting isolation is taken. That the offers on
free space come after both the application and the removal is the model's choice (log entry 44). -/
def slotFrameSent (during : During) (removedFirst : Bool) (s : State) : State :=
  match s.link.sending with
  | some (.slot f) =>
    let r := applyAndRemove during removedFirst f s
    let s2 := slotFrameDone f.listFollows r.1
    let offers := offersAfter r.2 (inputPoints s.inFlight)
    if s2.isolationWaits then inEitherOrder [offers, takeWaitingIsolation] s2 else offers s2
  | _ => s

/-- The OWNED LIST the station builds from its own records (R133). -/
def State.ownedList (s : State) : ListFrame :=
  { sender := s.own, cycleLow := (s.link.cycle.getD 0) % 65536, entries := (s.entriesOf s.own).map some }

/-- 12 bt after the own SLOT frame, the OWNED LIST is built and sent (R90, R133). -/
def sendOwnedList (s : State) : State :=
  if s.link.listDue ∧ s.link.state.sends ∧ s.link.sending = none then
    startSending (.list s.ownedList) (s.mapLink (fun l => { l with listDue := false }))
  else s

/-- The own OWNED LIST ends without collision (R112, R133): list owed is cleared and the own slot has succeeded (R90). -/
def ownedListSent (s : State) : State :=
  match s.link.sending with
  | some (.list _) =>
    let s1 := endUnreadFrame (setListOwed false (endSending s))
    takeWaitingIsolation (s1.mapLink (fun l => { l with ownCollisions := 0 }))
  | _ => s

/-- The own MARK ends without collision and is applied (R85, R96); a waiting isolation is taken then, under the current
stamp at the frame's end, which the MARK has set (R99, R159). -/
def markSent (f : MarkFrame) (s : State) : State :=
  takeWaitingIsolation (applyMark f true (settleCycle true f.cycle (endSending s)))

/-- The mark timer of an entitled station expires (R85). After a collision the mixed frame may still be in reception; the
spec does not say what becomes of it, and the model drops it and takes the own MARK as a new frame start (log entry 31). -/
def expireMarkTimer (s : State) : State :=
  if s.link.markTimer ≠ .stopped ∧ s.entitled ∧ s.link.sending = none then startSending (.mark s.nextMark) s else s

/-! Collisions (R79) -/

/-- The abort that waits for an abandoned frame withdraws the command's notice (R75). -/
def takeWaitingAbort (s : State) : State :=
  match s.port.running with
  | some c => if c.abortWaiting then withdrawCommandNotice s else s
  | none => s

/-- An abort waits for the end of the frame in flight (R178). -/
def State.abortWaits (s : State) : Bool :=
  match s.port.running with
  | some c => c.abortWaiting
  | none => false

/-- What falls at the end of an abandoned own frame, in either order (R76, R177): a waiting abort, a waiting isolation, the
entry to CONFLICT, and the offers that were declined in flight (R74). -/
def afterAbandoned (conflict : Bool) (points : List Nat) (s : State) : State :=
  let again := points.filter s.hasChange
  inEitherOrder
    ((if s.abortWaits then [takeWaitingAbort] else [])
      ++ (if s.isolationWaits then [takeWaitingIsolation] else [])
      ++ (if conflict then [enterConflict] else [])
      ++ (if again = [] then [] else [offersAfter false again])) s

/-- An own MARK collides (R86): the mark phase restarts with the same delay, the mixed frame goes on; the second time
without a valid MARK between, the station enters CONFLICT. The mixed frame stays in reception until a row ends it, also when
no start bit was seen (R79, log entry 39). -/
def markCollides (s : State) : State :=
  let n := s.link.markCollisions + 1
  let s1 := s.mapLink (fun l =>
    { l with sending := none, reception := .mixed, markCollisions := n,
             markTimer := if n < 2 then .runningToward (Config.markDelay s.own) else .stopped })
  afterAbandoned (2 ≤ n) [] s1

/-- A frame of the own slot collides (R90, R74): the slot's transmission is over; the second own slot in a row enters
CONFLICT. The frame heard stays in reception until a row ends it, also when no start bit was seen (R79, log entry 39). -/
def ownSlotCollides (s : State) : State :=
  let points := inputPoints s.inFlight
  let n := s.link.ownCollisions + 1
  let s1 := s.mapLink (fun l => { l with sending := none, ownCollisions := n, listDue := false })
  let s2 : State := { s1 with notices := s1.notices.map (fun q : QueuedNotice => { q with inFlight := false }) }
  afterAbandoned (2 ≤ n) points (s2.mapAgreement (fun a => { a with trial := none }))

/-- A character read back differs from the one sent (R79): the frame is abandoned and the collision counted; the receiver
goes on with the frame it hears. -/
def collide (s : State) : State :=
  let s1 := s.mapLink (fun l => { l with collisions := saturate 255 l.collisions })
  match s.link.sending with
  | none => s
  | some (.mark _) => markCollides s1
  | some (.slot _) => ownSlotCollides s1
  | some (.list _) => ownSlotCollides s1

/-! Time -/

/-- The silence timer of slot k runs out (R88). -/
def silentSlotEnds (s : State) : State :=
  match s.link.position with
  | .slot k =>
    if s.link.silenceTimer = .stopped then s
    else
      let s1 := if s.link.confirmed ∧ s.link.state.appliesFrames then
          match s.link.cycle with
          | some c => directorySilent k ⟨c, k, 0⟩ (setCurrent ⟨c, k, 0⟩ s)
          | none => s
        else s
      endSlot k s1
  | .markPhase => s
  | .unsynchronised => s

/-- The 24 bt interval after a frame end runs out (R89). -/
def occupiedSlotEnds (s : State) : State :=
  match s.link.position with
  | .slot k => if s.link.slotEndTimer = .stopped then s else endSlot k s
  | .markPhase => s
  | .unsynchronised => s

/-- A frame of another sender that is in reception ends otherwise than by length: it is invalid (R78, R82). -/
def cutFrame (s : State) : State :=
  if s.receives ∧ s.link.reception ≠ .idle ∧ s.link.sending = none then endInvalidFrame s else s

/-- 2,720 bt have passed since the slot began, and it ends (R89), a frame in reception with it by slot limit (R78, R82); or
since the start of a frame that began in MARK PHASE or while UNSYNCHRONISED, and that frame ends (R78, log entry 8). -/
def slotLimitEnds (s : State) : State :=
  match s.link.position with
  | .slot k =>
    if s.link.lengthTimer = .stopped then s
    else
      let s1 := if s.link.reception = .idle then s
        else countFrameError (s.mapLink (fun l => { l with reception := .idle }))
      endSlot k s1
  | .markPhase => cutFrame s
  | .unsynchronised => cutFrame s

/-- The listen window ends (R108): the founder's mark timer starts. -/
def listenWindowEnds (s : State) : State :=
  if s.link.state = .listening ∧ s.link.quiet < Config.quietLimit then
    s.mapLink (fun l => { l with quiet := Config.quietLimit, markTimer := .runningToward (Config.markDelay s.own) })
  else s

/-- The founder's mark timer expires (R108): RUNNING is entered, the JOIN queued, the MARK of cycle 1 sent; the Scanner
compares at the entry to RUNNING (R141), behind the JOIN (R138). -/
def found (s : State) : State :=
  if s.link.state = .listening ∧ s.link.markTimer ≠ .stopped then
    let s1 := (setLinkState .running s).mapLink (fun l =>
      { l with cycle := none, tablesNeeded := false, foundingSlot := true })
    let s2 := queueJoin false s1
    startSending (.mark s2.nextMark) (runOffers 400 scannerSweep s2)
  else s

/-- The quiet timer reaches its limit in JOINING (R109). -/
def joinQuietEnds (s : State) : State :=
  if s.link.state = .joining ∧ s.link.quiet < Config.quietLimit then enterListening s else s

end Sys2Proof.Machine
end

