-- ==== Sys2Proof/Machine/Operands.lean ====
section
/-! DEFINITION. The inputs of a mailbox command, read from the sixteen bytes captured from CMDDATA (R174, R193). -/

namespace Sys2Proof.Machine

open Sys2Proof

/-- The input byte at an offset from 1Eh. -/
def inputByte (inputs : Vector Byte 16) (offset : Nat) : Byte := byteAt inputs.toList offset

/-- The zone mask of "ACKA" and "RSTA": empty stands for the view mask (R63). -/
def maskInput (inputs : Vector Byte 16) (s : State) : ZoneMask :=
  if inputByte inputs 0 = 0 then s.viewMask else inputByte inputs 0

/-- The limit of "ACKA" and "RSTA": the stamp as given, or for 0.0.0 the newest qualifying stamp with the mask, which may
be none (R63). -/
def limitInput (inputs : Vector Byte 16) (qualifies : PointRecord → Bool) (s : State) : Option Stamp :=
  let given := stampAt inputs.toList 1
  if given = stampZero then s.newest qualifies (maskInput inputs s) else some given

/-- The owner of "ACKP", "SHLV" and "UNSH". -/
def ownerInput (inputs : Vector Byte 16) : Nat := (inputByte inputs 0).toNat

/-- The point of "ACKP", "SHLV" and "UNSH". -/
def pointInput (inputs : Vector Byte 16) : Nat := (inputByte inputs 1).toNat

/-- The occurrence of "ACKP". -/
def occurrenceInput (inputs : Vector Byte 16) : Nat := (inputByte inputs 2).toNat

/-- The seconds of "TEST" and the rejoin delay of "ISOL". -/
def secondsInput (inputs : Vector Byte 16) : Nat := (inputByte inputs 0).toNat

/-- The key of "LKEY". -/
def keyInput (inputs : Vector Byte 16) : Word32 := BitVec.ofNat 32 (fieldAt inputs.toList 0 4)

/-- "ACKP" inputs in range (R64): owner 1..24, point 0..16, occurrence 1..255. -/
def ackpInRange (inputs : Vector Byte 16) : Bool :=
  pointInRange (ownerInput inputs) (pointInput inputs) && 1 ≤ occurrenceInput inputs

/-- "SHLV" and "UNSH" inputs in range (R64): owner 1..24, point 0..15. -/
def shelveInRange (inputs : Vector Byte 16) : Bool :=
  pointInRange (ownerInput inputs) (pointInput inputs) && pointInput inputs ≤ 15

end Sys2Proof.Machine
end

