-- ==== Sys2Proof/Machine/Panel.lean ====
section
/-! DEFINITION. The panel's buttons, the flash clock and the modal timers (ch. 8; R179). -/

namespace Sys2Proof.Machine

open Sys2Proof

/-! Buttons (R150) -/

/-- One sample of one button (R150). -/
def sampleButton (closed : Bool) (b : ButtonState) : ButtonState :=
  if closed = b.pressed then { b with count := 0 }
  else if b.count + 1 < Config.buttonSamples then { b with count := b.count + 1 }
  else { pressed := closed, count := 0 }

/-- One sample of the four buttons (R150). -/
def sampleButtons (ack silence reset test : Bool) (s : State) : State :=
  s.mapPanel (fun p =>
    { p with ackButton := sampleButton ack p.ackButton, silenceButton := sampleButton silence p.silenceButton,
             resetButton := sampleButton reset p.resetButton, testButton := sampleButton test p.testButton })

/-- BUTTON_SAMPLE (R150); the actions of a recognised press or release are the commands below (log entry 12). -/
def execButtonSample (ack silence reset test : Bool) (s : State) : Host.Outcome State Fault Refusal :=
  whenUp s (sampleButtons ack silence reset test)

/-! ACK and RESET (R62, R68, R151) -/

/-- The notice an ACK press forms: ACK-UPTO with the view mask and the newest acknowledgeable stamp in it (R62). -/
def State.ackNotice (s : State) : Option Notice :=
  (s.newest acknowledgeable s.viewMask).map (fun limit => .ackUpto s.viewMask limit)

/-- The notice a RESET press forms: RESET-UPTO with the view mask and the newest resettable stamp in it (R62). -/
def State.resetNotice (s : State) : Option Notice :=
  (s.newest resettable s.viewMask).map (fun limit => .resetUpto s.viewMask limit)

/-- An ACK press in RUNNING: the notice is offered; it is held when declined for fullness, and a press whose notice is
taken or whose answer is none discards the held one (R62, R68). -/
def pressAck (s : State) : State :=
  match s.ackNotice with
  | none => s.mapPanel (fun p => { p with heldAck := none })
  | some n =>
    let r := offer n .ackButton s
    r.1.mapPanel (fun p => { p with heldAck := if r.2 then none else some n })

/-- The notice part of a RESET press in RUNNING, as for ACK (R62, R68). -/
def pressReset (s : State) : State :=
  match s.resetNotice with
  | none => s.mapPanel (fun p => { p with heldReset := none })
  | some n =>
    let r := offer n .resetButton s
    r.1.mapPanel (fun p => { p with heldReset := if r.2 then none else some n })

/-- The ACK button's action (R151): in RUNNING only. -/
def ackAction (s : State) : State := if s.link.state = .running then pressAck s else s

/-- The RESET button's action (R151): the local reset action in every link state, the notice in RUNNING. -/
def resetAction (s : State) : State :=
  if s.link.state = .running then pressReset (localReset s) else localReset s

/-- ACK_PRESS (R62, R151). -/
def execAckPress (s : State) : Host.Outcome State Fault Refusal := whenUp s ackAction

/-- RESET_PRESS (R62, R151). -/
def execResetPress (s : State) : Host.Outcome State Fault Refusal := whenUp s resetAction

/-! SILENCE and TEST -/

/-- SILENCE_PRESS (R148, R151), in every link state. -/
def execSilencePress (s : State) : Host.Outcome State Fault Refusal := whenUp s silenceAction

/-- The start of a LAMP TEST (R179), timed or held: from ISOLATED a rejoin is requested first. -/
def startLampTest (seconds : Option Nat) (s : State) : State :=
  (rejoin s).mapPort (fun p => { p with modal := .lampTest seconds })

/-- The end of a LAMP TEST, whichever source started it (R152, R179). -/
def endLampTest (s : State) : State :=
  match s.port.modal with
  | .lampTest _ => s.mapPort (fun p => { p with modal := .none })
  | .isolated _ => s
  | .none => s

/-- TEST_PRESS (R152, R179): a held LAMP TEST, in every link state. -/
def execTestPress (s : State) : Host.Outcome State Fault Refusal := whenUp s (startLampTest none)

/-- TEST_RELEASE (R152, R179). -/
def execTestRelease (s : State) : Host.Outcome State Fault Refusal := whenUp s endLampTest

/-! Clocks -/

/-- One millisecond of the flash clock (R145): 0..999, wrapping. -/
def tickFlash (s : State) : State := s.mapPanel (fun p => { p with flash := (p.flash + 1) % 1000 })

/-- FLASH_CLOCK_TICK (R145). -/
def execFlashClockTick (s : State) : Host.Outcome State Fault Refusal := whenUp s tickFlash

/-- The duration of a timed LAMP TEST expires (R179); a held one has no duration. -/
def expireLampTest (s : State) : State :=
  match s.port.modal with
  | .lampTest (some _) => s.mapPort (fun p => { p with modal := .none })
  | .lampTest none => s
  | .isolated _ => s
  | .none => s

/-- LAMP_TEST_EXPIRY (R179). -/
def execLampTestExpiry (s : State) : Host.Outcome State Fault Refusal := whenUp s expireLampTest

/-- The rejoin that ends an isolation, "RJON" or the delay's expiry: the modal state becomes NONE (R177, R179). -/
def rejoinToNone (s : State) : State := (rejoin s).mapPort (fun p => { p with modal := .none })

/-- The rejoin delay expires (R177); an isolation without a delay has none to expire. -/
def expireRejoinDelay (s : State) : State :=
  match s.port.modal with
  | .isolated (some _) => rejoinToNone s
  | .isolated none => s
  | .lampTest _ => s
  | .none => s

/-- REJOIN_DELAY_EXPIRY (R177, R119). -/
def execRejoinDelayExpiry (s : State) : Host.Outcome State Fault Refusal := whenUp s expireRejoinDelay

end Sys2Proof.Machine
end

