-- ==== Sys2Proof/Machine/Mailbox.lean ====
section
/-! DEFINITION. The mailbox (R172 to R178, R180): the write of CMD, the twelve commands, the abort, and the commands of the
table that are such writes. -/

namespace Sys2Proof.Machine

open Sys2Proof

/-! Codes (R174, R193) -/

/-- The four ASCII letters of a command, the first the most significant. -/
def CommandCode.word : CommandCode → Word32
  | .acka => 0x41434B41
  | .ackp => 0x41434B50
  | .rsta => 0x52535441
  | .shlv => 0x53484C56
  | .unsh => 0x554E5348
  | .siln => 0x53494C4E
  | .test => 0x54455354
  | .clrh => 0x434C5248
  | .isol => 0x49534F4C
  | .rjon => 0x524A4F4E
  | .lkey => 0x4C4B4559
  | .warm => 0x5741524D

/-- "ABRT". -/
def abortWord : Word32 := 0x41425254

/-- The twelve commands. -/
def commandCodes : List CommandCode :=
  [.acka, .ackp, .rsta, .shlv, .unsh, .siln, .test, .clrh, .isol, .rjon, .lkey, .warm]

/-- The command of a code. -/
def commandOf (word : Word32) : Option CommandCode := commandCodes.find? (fun c => c.word = word)

/-! The lock (R180) -/

/-- The station is unlocked: the key equals the unlock code of the image. -/
def State.unlocked (s : State) : Bool :=
  match s.loader.image with
  | some i => s.port.key = i.unlock
  | none => false

/-- A locked command refused (R180): LOCKED, LOCKREF and the LOCK REFUSED entry. -/
def refuseLocked (s : State) : State :=
  recordOwn .lockRefused s.link.current none (setEvent .lockref (complete .locked [] s))

/-- The lock check, which a locked command meets before every other check (R174, R180). -/
def whenUnlocked (f : State → State) (s : State) : State := if s.unlocked then f s else refuseLocked s

/-! The notice commands (R63, R64, R175) -/

/-- The check of room: the notice is appended with the command mark and the command stays in progress, or it completes
FULL (R64, R67). -/
def queueCommandNotice (n : Notice) (s : State) : State :=
  let r := offer n .command s
  if r.2 then r.1 else complete .full [] r.1

/-- The check of the link state (R64): RUNNING, or REFUSED. -/
def whenRunning (f : State → State) (s : State) : State :=
  if s.link.state = .running then f s else complete .refused [] s

/-- "ACKA" (R63, R64, R175). -/
def commandAcka (inputs : Vector Byte 16) (s : State) : State :=
  whenRunning (fun s =>
    match limitInput inputs acknowledgeable s with
    | some limit => queueCommandNotice (.ackUpto (maskInput inputs s) limit) s
    | none => complete .done [] s) s

/-- "ACKP" (R64, R175). -/
def commandAckp (inputs : Vector Byte 16) (s : State) : State :=
  whenRunning (fun s =>
    if ackpInRange inputs then
      queueCommandNotice (.ackPoint (ownerInput inputs) (pointInput inputs) (occurrenceInput inputs)) s
    else complete .refused [] s) s

/-- "RSTA" (R57, R63, R64, R175): the local reset action first, whatever the outcome of the rest. -/
def commandRsta (inputs : Vector Byte 16) (s : State) : State :=
  whenRunning (fun s =>
    match limitInput inputs resettable s with
    | some limit => queueCommandNotice (.resetUpto (maskInput inputs s) limit) s
    | none => complete .done [] s) (localReset s)

/-- "SHLV" (R64, R175, R180). -/
def commandShlv (inputs : Vector Byte 16) (s : State) : State :=
  whenUnlocked (whenRunning (fun s =>
    if shelveInRange inputs then queueCommandNotice (.shelve (ownerInput inputs) (pointInput inputs)) s
    else complete .refused [] s)) s

/-- "UNSH" (R64, R175, R180). -/
def commandUnsh (inputs : Vector Byte 16) (s : State) : State :=
  whenUnlocked (whenRunning (fun s =>
    if shelveInRange inputs then queueCommandNotice (.unshelve (ownerInput inputs) (pointInput inputs)) s
    else complete .refused [] s)) s

/-! The local commands (R176, R161) -/

/-- "SILN" (R176). -/
def commandSiln (s : State) : State := complete .done [] (silenceAction s)

/-- "TEST" (R176, R179): 0 seconds are refused. -/
def commandTest (inputs : Vector Byte 16) (s : State) : State :=
  if secondsInput inputs = 0 then complete .refused [] s
  else complete .done [] (startLampTest (some (secondsInput inputs)) s)

/-- "CLRH" (R161, R176). -/
def commandClrh (s : State) : State := whenUnlocked (fun s => complete .done [] { s with history := ⟨[], 0⟩ }) s

/-! Isolation and rejoin (R177) -/

/-- The rejoin delay restarted in ISOLATED; 0 is no delay (R177). -/
def restartDelay (delay : Nat) (s : State) : State :=
  s.mapPort (fun p => { p with modal := .isolated (if delay = 0 then none else some delay) })

/-- "ISOL" (R177): at once, at the end of the own frame being sent, or declined. -/
def commandIsol (inputs : Vector Byte 16) (s : State) : State :=
  whenUnlocked (fun s =>
    match s.link.state with
    | .running =>
      if s.link.sending = none then complete .done [] (enterIsolated (secondsInput inputs) s) else s
    | .joining =>
      if s.link.sending = none then complete .done [] (enterIsolated (secondsInput inputs) s) else s
    | .isolated => complete .done [] (restartDelay (secondsInput inputs) s)
    | .listening => complete .refused [] s
    | .conflict => complete .refused [] s
    | .mismatch => complete .refused [] s
    | .configuring => complete .refused [] s
    | .configFault => complete .refused [] s) s

/-- "RJON" (R177, R119). -/
def commandRjon (s : State) : State :=
  if s.link.state = .isolated then complete .done [] (rejoinToNone s) else complete .refused [] s

/-! The key (R180) -/

/-- "LKEY" (R180): the key is written while it holds 0 or the unlock code. -/
def commandLkey (inputs : Vector Byte 16) (s : State) : State :=
  let v := keyInput inputs
  if s.port.key = 0 ∨ s.unlocked then
    let s1 := s.mapPort (fun p => { p with key := v })
    complete (if v = 0 ∨ s1.unlocked then .done else .locked) [] s1
  else complete .locked [] s

/-! The write of CMD (R172) -/

/-- The rule that handles each command from LISTENING on (R174); "WARM" waits for the end of its transaction (R163). -/
def handleCommand (code : CommandCode) (inputs : Vector Byte 16) (s : State) : State :=
  match code with
  | .acka => commandAcka inputs s
  | .ackp => commandAckp inputs s
  | .rsta => commandRsta inputs s
  | .shlv => commandShlv inputs s
  | .unsh => commandUnsh inputs s
  | .siln => commandSiln s
  | .test => commandTest inputs s
  | .clrh => commandClrh s
  | .isol => commandIsol inputs s
  | .rjon => commandRjon s
  | .lkey => commandLkey inputs s
  | .warm => s

/-- A command is taken into an idle mailbox: its inputs are captured and the overrun count becomes 0 (R172). -/
def takeCommand (code : CommandCode) (s : State) : State :=
  s.mapPort (fun p =>
    { p with running := some { code := code, inputs := p.data, abortWaiting := false, stamp := s.link.current },
             overrun := 0 })

/-- A command starts (R172); before an image is delivered every command but "WARM" is refused, with no other check
(R174). -/
def startCommand (code : CommandCode) (s : State) : State :=
  if s.link.state.unconfigured ∧ code ≠ .warm then complete .refused [] (takeCommand code s)
  else handleCommand code s.port.data (takeCommand code s)

/-- The queued notice of the command in progress (R75). -/
def State.commandNotice (s : State) : Option QueuedNotice := s.notices.find? (fun q => q.cmdMark)

/-- An abort of a notice command (R75, R178): withdrawn at once, or at the end of the frame that carries it. -/
def abortNoticeCommand (s : State) : State :=
  match s.commandNotice with
  | none => s
  | some q =>
    if q.inFlight then
      s.mapPort (fun p => { p with running := p.running.map (fun c => { c with abortWaiting := true }) })
    else withdrawCommandNotice s

/-- "ABRT" (R178). -/
def abort (s : State) : State :=
  match s.port.running with
  | none => s
  | some c =>
    match c.code with
    | .acka => abortNoticeCommand s
    | .ackp => abortNoticeCommand s
    | .rsta => abortNoticeCommand s
    | .shlv => abortNoticeCommand s
    | .unsh => abortNoticeCommand s
    | .isol => complete .aborted [] s
    | .warm => s
    | .siln => s
    | .test => s
    | .clrh => s
    | .rjon => s
    | .lkey => s

/-- The write is ignored and counted (R172). -/
def countOverrun (s : State) : State := s.mapPort (fun p => { p with overrun := saturate 255 p.overrun })

/-- The bytes of CMD collected in this transaction are used up or discarded (R166). -/
def clearCmdPart (s : State) : State := s.mapPort (fun p => { p with cmdPart := .replicate 4 none })

/-- A completed write of CMD (R172): the table of the rule. -/
def writeCmd (word : Word32) (s : State) : State :=
  let s := clearCmdPart s
  if word = abortWord then abort s
  else if s.port.running.isSome then countOverrun s
  else if word = 0 then s
  else match commandOf word with
    | some code => startCommand code s
    | none => complete .refused [] s

/-! The rows: each is a write of CMD, with its inputs in CMDDATA (log entry 15) -/

/-- The byte at 1Dh that completes a write of CMD (R166). -/
def writeCmdAt1D (word : Word32) (s : State) : State := serve (afterWrite 0x1D) (writeCmd word) s

/-- A row that is a write of CMD. -/
def writeCmdRow (word : Word32) (s : State) : Host.Outcome State Fault Refusal := .next (writeCmdAt1D word s)

/-- ACKA -/
def execAcka (s : State) : Host.Outcome State Fault Refusal := writeCmdRow CommandCode.acka.word s

/-- ACKP -/
def execAckp (s : State) : Host.Outcome State Fault Refusal := writeCmdRow CommandCode.ackp.word s

/-- RSTA -/
def execRsta (s : State) : Host.Outcome State Fault Refusal := writeCmdRow CommandCode.rsta.word s

/-- SHLV -/
def execShlv (s : State) : Host.Outcome State Fault Refusal := writeCmdRow CommandCode.shlv.word s

/-- UNSH -/
def execUnsh (s : State) : Host.Outcome State Fault Refusal := writeCmdRow CommandCode.unsh.word s

/-- SILN -/
def execSiln (s : State) : Host.Outcome State Fault Refusal := writeCmdRow CommandCode.siln.word s

/-- TEST -/
def execTest (s : State) : Host.Outcome State Fault Refusal := writeCmdRow CommandCode.test.word s

/-- CLRH -/
def execClrh (s : State) : Host.Outcome State Fault Refusal := writeCmdRow CommandCode.clrh.word s

/-- ISOL -/
def execIsol (s : State) : Host.Outcome State Fault Refusal := writeCmdRow CommandCode.isol.word s

/-- RJON -/
def execRjon (s : State) : Host.Outcome State Fault Refusal := writeCmdRow CommandCode.rjon.word s

/-- LKEY -/
def execLkey (s : State) : Host.Outcome State Fault Refusal := writeCmdRow CommandCode.lkey.word s

/-- WARM: taken here; the restart begins at the rise of SSN (R163). -/
def execWarm (s : State) : Host.Outcome State Fault Refusal := writeCmdRow CommandCode.warm.word s

/-- ABRT -/
def execAbrt (s : State) : Host.Outcome State Fault Refusal := writeCmdRow abortWord s

/-- UNKNOWN_COMMAND -/
def execUnknownCommand (code : Word32) (s : State) : Host.Outcome State Fault Refusal := writeCmdRow code s

/-- OVERRUN -/
def execOverrun (code : Word32) (s : State) : Host.Outcome State Fault Refusal := writeCmdRow code s

end Sys2Proof.Machine
end

