-- ==== Sys2Proof/Machine/Window.lean ====
section
/-! DEFINITION. Reading the supervisory port (R164 to R166, R169 to R171, R193, R194): the window's bytes, a read
transaction, and the record latch. Reads are functions of the state (log entry 16); only RECORD_LOAD changes it. -/

namespace Sys2Proof.Machine

open Sys2Proof

/-! Codes (R193) -/

/-- LINKSTATE. -/
def LinkState.code : LinkState → Byte
  | .configuring => 0
  | .configFault => 1
  | .listening => 2
  | .joining => 3
  | .running => 4
  | .isolated => 5
  | .conflict => 6
  | .mismatch => 7

/-- MODE. -/
def Modal.code : Modal → Byte
  | .none => 0
  | .lampTest _ => 1
  | .isolated _ => 2

/-- CMDRES. -/
def CommandResult.code : CommandResult → Byte
  | .done => 0
  | .aborted => 1
  | .stale => 2
  | .refused => 3
  | .full => 4
  | .locked => 5
  | .absent => 6

/-- The object code of SELECT. -/
def RecordObject.code : RecordObject → Byte
  | .alarmList => 0
  | .pointTable => 1
  | .directory => 2
  | .history => 3

/-- The code of the command in progress; 0 while idle (R172). -/
def Port.cmdWord (p : Port) : Word32 := match p.running with | some c => c.code.word | none => 0

/-- Byte `i` of an `n`-byte field, most significant byte first. -/
def fieldByte (n value i : Nat) : Byte := byteAt (beBytes n value) i

/-- The byte at a window address (R165, R193); 0 outside the window. CYCLE shows the current cycle number, 0 while it is
absent (R84, R165), where R99 has it show the cycle part of the current stamp (log entry 30). -/
def windowByte (s : State) (address : Nat) : Byte :=
  let p := s.port
  if address = 0x00 then 0x50
  else if address = 0x01 then 0x42
  else if address = 0x02 then 0x18
  else if address = 0x03 then Config.siliconRevision
  else if address = 0x04 then s.link.state.code
  else if address = 0x05 then p.modal.code
  else if address = 0x06 then BitVec.ofNat 8 s.own
  else if address < 0x0C then fieldByte 5 (s.link.cycle.getD 0) (address - 0x07)
  else if address < 0x0E then fieldByte 2 p.events.toNat (address - 0x0C)
  else if address < 0x10 then fieldByte 2 p.enables.toNat (address - 0x0E)
  else if address = 0x10 then BitVec.ofNat 8 s.link.frameErrors
  else if address = 0x11 then BitVec.ofNat 8 s.link.collisions
  else if address = 0x12 then BitVec.ofNat 8 s.link.slips
  else if address = 0x13 then BitVec.ofNat 8 s.agreement.lapses
  else if address = 0x14 then BitVec.ofNat 8 s.list.entries.length
  else if address = 0x15 then BitVec.ofNat 8 s.list.generation
  else if address = 0x16 then BitVec.ofNat 8 s.history.entries.length
  else if address < 0x19 then fieldByte 2 s.history.overflow (address - 0x17)
  else if address = 0x19 then p.result.code
  else if address < 0x1E then fieldByte 4 p.cmdWord.toNat (address - 0x1A)
  else if address < 0x2E then tableGet p.data (address - 0x1E) 0
  else if address = 0x2E then p.object.code
  else if address < 0x31 then fieldByte 2 p.index (address - 0x2F)
  else if 0x40 ≤ address ∧ address < 0x50 then tableGet p.latch (address - 0x40) 0
  else 0

/-! A read transaction (R164, R166) -/

/-- The first byte of the field, read whole, that an address belongs to (R166). -/
def wholeField (address : Nat) : Option Nat :=
  if 0x07 ≤ address ∧ address ≤ 0x0B then some 0x07
  else if 0x0C ≤ address ∧ address ≤ 0x0D then some 0x0C
  else if 0x0E ≤ address ∧ address ≤ 0x0F then some 0x0E
  else if 0x17 ≤ address ∧ address ≤ 0x18 then some 0x17
  else if 0x1A ≤ address ∧ address ≤ 0x1D then some 0x1A
  else if 0x2E ≤ address ∧ address ≤ 0x30 then some 0x2E
  else none

/-- The data bytes of a read, one for each state the part is in when the byte's first bit is shifted out; `taken` is the
state at the first byte of the field being read, when the read has come through it. -/
def readBytes : Option State → Nat → List State → List Byte
  | _, _, [] => []
  | taken, address, s :: rest =>
    match wholeField address with
    | some first =>
      if address = first then windowByte s address :: readBytes (some s) (nextAddress address) rest
      else windowByte (taken.getD s) address :: readBytes taken (nextAddress address) rest
    | none => windowByte s address :: readBytes none (nextAddress address) rest

/-- A read transaction from an address (R164, R166). -/
def readTransaction (address : Nat) (states : List State) : List Byte := readBytes none address states

/-! Records (R171, R194) -/

/-- Sixteen bytes as a table. -/
def sixteen (bs : List Byte) : Vector Byte 16 :=
  #v[byteAt bs 0, byteAt bs 1, byteAt bs 2, byteAt bs 3, byteAt bs 4, byteAt bs 5, byteAt bs 6, byteAt bs 7,
     byteAt bs 8, byteAt bs 9, byteAt bs 10, byteAt bs 11, byteAt bs 12, byteAt bs 13, byteAt bs 14, byteAt bs 15]

/-- The code of a liveness. -/
def Liveness.code : Liveness → Byte
  | .unknown => 0
  | .live => 1
  | .silent1 => 2
  | .silent2 => 3
  | .lost => 4

/-- The code of a history kind. -/
def HistoryKind.code : HistoryKind → Byte
  | .raise => 0x01
  | .clear => 0x02
  | .ackPoint => 0x03
  | .shelve => 0x04
  | .unshelve => 0x05
  | .ackUpto => 0x06
  | .resetUpto => 0x07
  | .staleAck => 0x08
  | .overflow => 0x09
  | .lost => 0x0A
  | .joined => 0x0B
  | .isolate => 0x0C
  | .rejoin => 0x0D
  | .conflict => 0x0E
  | .mismatch => 0x0F
  | .rebuild => 0x10
  | .resync => 0x11
  | .lapse => 0x12
  | .queueAged => 0x13
  | .queueFlush => 0x14
  | .lockRefused => 0x15
  | .restart => 0x16

/-- The bytes of a record, its flags and chatter byte given. -/
def pointBytes (id : PointId) (r : PointRecord) (flags : Byte) (chatter : Nat) : List Byte :=
  [1, BitVec.ofNat 8 id.owner, BitVec.ofNat 8 id.point, stateFlagsByte r.state r.active r.shelved r.firstOut, flags,
    attributesByte r.attrs, BitVec.ofNat 8 r.occurrence] ++ optStampBytes r.alert
    ++ [BitVec.ofNat 8 (r.lastActor.getD 0), BitVec.ofNat 8 chatter]

/-- An alarm list record: no unlisted bit, no chatter count (R194). -/
def listRecord (s : State) (id : PointId) : List Byte :=
  let r := s.record id
  pointBytes id r (bit r.ownerLost 1) 0

/-- A point table record; the chatter count is present for the station's own field points (R171, R194). -/
def tableRecord (s : State) (id : PointId) : List Byte :=
  let r := s.record id
  let ownField := id.owner = s.own ∧ id.point ≤ 15
  pointBytes id r (bit r.unlisted 0 ||| bit r.ownerLost 1 ||| bit ownField 2)
    (if ownField then (s.input id.point).chatter else 0)

/-- A directory record (R194). -/
def directoryRecord (s : State) (address : Nat) : List Byte :=
  let e := s.entry address
  [1, BitVec.ofNat 8 address, e.liveness.code, BitVec.ofNat 8 (e.zone.getD 0)] ++ beBytes 5 (e.lastCycle.getD 0)
    ++ beBytes 2 (e.digest.getD 0).toNat
    ++ [bit e.digest.isSome 0 ||| bit e.listOwed 1 ||| bit e.stale 2 ||| bit e.resync.isSome 3 ||| bit e.joinWait.isSome 4,
        BitVec.ofNat 8 (e.resync.getD 0), BitVec.ofNat 8 (e.joinWait.getD 0), 0, 0]

/-- The class code of a history entry; 0 when absent. -/
def optClassCode (c : Option PointClass) : Nat := match c with | some c => classCode c | none => 0

/-- A history record (R194). -/
def historyRecord (e : HistoryEntry) : List Byte :=
  [1, e.kind.code, BitVec.ofNat 8 e.station,
    bit e.point.isSome 0 ||| bit e.occurrence.isSome 1 ||| bit e.actor.isSome 2 ||| bit e.count.isSome 3
      ||| BitVec.ofNat 8 (64 * optClassCode e.cls)]
    ++ stampBytes e.stamp
    ++ [BitVec.ofNat 8 (e.point.getD 0), BitVec.ofNat 8 (e.occurrence.getD 0), BitVec.ofNat 8 (e.actor.getD 0)]
    ++ beBytes 2 (e.count.getD 0)

/-- The record of an object at an index; an index beyond the alarm list or the log gives the all-zero record (R170). -/
def recordAt (s : State) (object : RecordObject) (index : Nat) : List Byte :=
  match object with
  | .alarmList => match s.list.entries[index]? with
    | some id => listRecord s id
    | none => []
  | .pointTable => tableRecord s (pointAtIndex index)
  | .directory => directoryRecord s (index + 1)
  | .history => match s.history.entries[index]? with
    | some e => historyRecord e
    | none => []

/-- The size of an object (R169). -/
def RecordObject.size : RecordObject → Nat
  | .alarmList => Config.listPlaces
  | .pointTable => Config.records
  | .directory => Config.stations
  | .history => Config.logPlaces

/-- The load of the record latch when the byte at 4Fh has been read (R170). -/
def loadRecord (s : State) : State :=
  s.mapPort (fun p =>
    { p with latch := sixteen (recordAt s p.object p.index),
             index := if p.index + 1 < p.object.size then p.index + 1 else 0 })

/-- The byte at 4Fh of a read transaction (R170). -/
def readAt4F (s : State) : State := serve (.reading (nextAddress 0x4F)) loadRecord s

/-- RECORD_LOAD (R170, R171). -/
def execRecordLoad (s : State) : Host.Outcome State Fault Refusal := .next (readAt4F s)

end Sys2Proof.Machine
end

