-- ==== Sys2Proof/Machine/Port.lean ====
section
/-! DEFINITION. Writing the supervisory port (R165 to R169, R172): each place's effect, byte by byte, and the commands of
the table that are register writes. -/

namespace Sys2Proof.Machine

open Sys2Proof

/-! EVENTS, EVENTMASK and the counters -/

/-- The bits of a two-byte field that a byte at an offset covers: the first byte holds bits 8..11, bits 12..15 are zero
and a write to them has no effect (R189, R193). -/
def fieldBits (offset : Nat) (value : Byte) : BitVec 12 :=
  if offset = 0 then (value.setWidth 12) <<< 8 else if offset = 1 then value.setWidth 12 else 0

/-- A byte written to EVENTS clears the flags at its 1 bits (R167). -/
def writeEvents (offset : Nat) (value : Byte) (s : State) : State :=
  s.mapPort (fun p => { p with events := p.events &&& ~~~ fieldBits offset value })

/-- A byte written to EVENTMASK sets the enables it covers (R168). -/
def writeEventmask (offset : Nat) (value : Byte) (s : State) : State :=
  s.mapPort (fun p => { p with enables := (p.enables &&& ~~~ fieldBits offset 0xFF) ||| fieldBits offset value })

/-- Any byte written in 10h..13h zeroes the four counters (R82, R166). -/
def zeroCounters (s : State) : State :=
  (s.mapLink (fun l => { l with frameErrors := 0, collisions := 0, slips := 0 })).mapAgreement
    (fun a => { a with lapses := 0 })

/-! CMDDATA, CMD and SELECT -/

/-- A byte written to CMDDATA is stored at once, whether or not a command is in progress (R166, R172). -/
def writeData (offset : Nat) (value : Byte) (s : State) : State :=
  s.mapPort (fun p => { p with data := tableSet p.data offset value })

/-- Collected bytes, when every one has been written. -/
def collected {n : Nat} (part : Vector (Option Byte) n) : Option (List Byte) := allSome part.toList

/-- A byte written into CMD is collected; the last byte makes the write when all four are there (R166). -/
def writeCmdByte (offset : Nat) (value : Byte) (s : State) : State :=
  let s1 := s.mapPort (fun p => { p with cmdPart := tableSet p.cmdPart offset (some value) })
  if offset = 3 then
    match collected s1.port.cmdPart with
    | some bs => writeCmd (BitVec.ofNat 32 (beNat bs)) s1
    | none => s1
  else s1

/-- The object of a code (R169). -/
def objectOf (code : Nat) : Option RecordObject :=
  match code with
  | 0 => some .alarmList
  | 1 => some .pointTable
  | 2 => some .directory
  | 3 => some .history
  | _ => none

/-- A completed write of SELECT (R169): an object code above 3 is ignored whole. -/
def writeSelect (object : Byte) (index : BitVec 16) (s : State) : State :=
  s.mapPort (fun p =>
    match objectOf object.toNat with
    | some o => { p with object := o, index := index.toNat % o.size, selectPart := .replicate 3 none }
    | none => { p with selectPart := .replicate 3 none })

/-- A byte written into SELECT is collected; the last byte makes the write when all three are there (R166). -/
def writeSelectByte (offset : Nat) (value : Byte) (s : State) : State :=
  let s1 := s.mapPort (fun p => { p with selectPart := tableSet p.selectPart offset (some value) })
  if offset = 2 then
    match collected s1.port.selectPart with
    | some bs => writeSelect (byteAt bs 0) (BitVec.ofNat 16 (fieldAt bs 1 2)) s1
    | none => s1
  else s1

/-- A byte written at a window address (R165, R166). -/
def writeByte (address : Nat) (value : Byte) (s : State) : State :=
  if address < 0x0C then s
  else if address < 0x0E then writeEvents (address - 0x0C) value s
  else if address < 0x10 then writeEventmask (address - 0x0E) value s
  else if address < 0x14 then zeroCounters s
  else if address < 0x1A then s
  else if address < 0x1E then writeCmdByte (address - 0x1A) value s
  else if address < 0x2E then writeData (address - 0x1E) value s
  else if address < 0x31 then writeSelectByte (address - 0x2E) value s
  else s

/-! The rows -/

/-- The byte at 0Ch + offset written in a transaction (R167). -/
def writeEventsAt (offset : Nat) (value : Byte) (s : State) : State :=
  serve (afterWrite (0x0C + offset)) (writeEvents offset value) s

/-- EVENTS_WRITE of the byte at 0Ch + offset (R167). Inside a frame it is an action of the frame's row; inside every other row
the model takes it before or after the row (log entry 46). -/
def execEventsWrite (offset : Nat) (value : Byte) (s : State) : Host.Outcome State Fault Refusal :=
  .next (writeEventsAt offset value s)

/-- EVENTMASK_WRITE of the byte at 0Eh + offset (R168). -/
def execEventmaskWrite (offset : Nat) (value : Byte) (s : State) : Host.Outcome State Fault Refusal :=
  whenServed (afterWrite (0x0E + offset)) s (writeEventmask offset value)

/-- COUNTERS_WRITE of the byte at 10h + offset; neither place nor value matters (R165, R166). -/
def execCountersWrite (offset : Nat) (_value : Byte) (s : State) : Host.Outcome State Fault Refusal :=
  whenServed (afterWrite (0x10 + offset)) s zeroCounters

/-- SELECT_WRITE, the whole field (R169). -/
def execSelectWrite (object : Byte) (index : BitVec 16) (s : State) : Host.Outcome State Fault Refusal :=
  whenServed (afterWrite 0x30) s (writeSelect object index)

/-- REGISTER_WRITE of one byte at any window address (R165, R166). -/
def execRegisterWrite (address : BitVec 7) (value : Byte) (s : State) : Host.Outcome State Fault Refusal :=
  whenServed (afterWrite address.toNat) s (writeByte address.toNat value)

end Sys2Proof.Machine
end

