-- ==== Sys2Proof/Machine/LinkEvents.lean ====
section
/-! DEFINITION. The commands of the link (ch. 5, 6): frame starts and ends, received frames, own frames, timers. -/

namespace Sys2Proof.Machine

open Sys2Proof

/-! What falls inside the application of a frame (log entry 36) -/

/-- An action inside the application of a frame does what its row does. -/
def actInside (a : InsideAction) (s : State) : State :=
  match a with
  | .silencePress => silenceAction s
  | .ackPress => ackAction s
  | .resetPress => resetAction s
  | .siln => writeCmdAt1D CommandCode.siln.word s
  | .acka => writeCmdAt1D CommandCode.acka.word s
  | .rsta => writeCmdAt1D CommandCode.rsta.word s
  | .recordLoad => readAt4F s
  | .clrh => writeCmdAt1D CommandCode.clrh.word s
  | .eventsWrite offset value => writeEventsAt offset value s

/-- The actions of one moment, in the order given. -/
def fallInside (inside : List Inside) : During := fun m s =>
  inTurn ((inside.filter (fun x => x.moment = m)).map (fun x => actInside x.action)) s

/-! Receiving (R78, R82; log entries 7 and 8) -/

/-- A character begins with no frame in reception (R78). -/
def frameStarts (s : State) : State := if s.receives ∧ s.link.reception = .idle then startFrame s else s

/-- A frame in reception, not the station's own, ends by gap; it did not end by length, so it is invalid (R78, R82). -/
def frameEndsByGap (s : State) : State := cutFrame s

/-- A frame ends invalid (R82). -/
def invalidFrameEnds (s : State) : State := if s.receives ∧ s.link.sending = none then endInvalidFrame s else s

/-- A MARK ends on the line: the station's own, when it is the one being sent, or another sender's (R96, log entry 26). -/
def markEnds (bytes : List Byte) (s : State) : State :=
  match s.link.sending with
  | some (.mark f) => if bytes = (Sending.mark f).bytes then markSent f s else s
  | some (.slot _) => s
  | some (.list _) => s
  | none => receiveBytes nothingInside bytes s

/-- FRAME_START (R78). -/
def execFrameStart (s : State) : Host.Outcome State Fault Refusal := whenUp s frameStarts

/-- COLLISION (R79). -/
def execCollision (s : State) : Host.Outcome State Fault Refusal := whenUp s collide

/-- FRAME_END_BY_GAP (R78, R82). -/
def execFrameEndByGap (s : State) : Host.Outcome State Fault Refusal := whenUp s frameEndsByGap

/-- INVALID_FRAME (R82). -/
def execInvalidFrame (s : State) : Host.Outcome State Fault Refusal := whenUp s invalidFrameEnds

/-- MARK_RECEIVED (R96): the station's own MARK, sent without collision, or a peer's. -/
def execMarkReceived (bytes : List Byte) (s : State) : Host.Outcome State Fault Refusal := whenUp s (markEnds bytes)

/-- SLOT_FRAME_RECEIVED (R97), with what falls inside it (R40, R44, R148, R161, R167). -/
def execSlotFrameReceived (bytes : List Byte) (s : State) (inside : List Inside := []) :
    Host.Outcome State Fault Refusal :=
  whenUp s (receiveBytes (fallInside inside) bytes)

/-- OWNED_LIST_RECEIVED (R98, R135), with what falls inside it (R40, R44, R148, R161, R167). -/
def execOwnedListReceived (bytes : List Byte) (s : State) (inside : List Inside := []) :
    Host.Outcome State Fault Refusal :=
  whenUp s (receiveBytes (fallInside inside) bytes)

/-! Sending -/

/-- SLOT_FRAME_SEND (R90). -/
def execSlotFrameSend (s : State) : Host.Outcome State Fault Refusal := whenUp s sendSlotFrame

/-- OWN_SLOT_FRAME_SENT (R73, R97), with what falls inside it (R40, R44, R148, R161, R167). -/
def execOwnSlotFrameSent (s : State) (inside : List Inside := []) (removedFirst : Bool := false) :
    Host.Outcome State Fault Refusal :=
  whenUp s (slotFrameSent (fallInside inside) removedFirst)

/-- OWNED_LIST_SEND (R133). -/
def execOwnedListSend (s : State) : Host.Outcome State Fault Refusal := whenUp s sendOwnedList

/-- OWNED_LIST_SENT (R133, R112). -/
def execOwnedListSent (s : State) : Host.Outcome State Fault Refusal := whenUp s ownedListSent

/-- MARK_TIMER_EXPIRY (R85). -/
def execMarkTimerExpiry (s : State) : Host.Outcome State Fault Refusal := whenUp s expireMarkTimer

/-! Time -/

/-- LISTEN_WINDOW_EXPIRY (R108). -/
def execListenWindowExpiry (s : State) : Host.Outcome State Fault Refusal := whenUp s listenWindowEnds

/-- FOUNDING (R108). -/
def execFounding (s : State) : Host.Outcome State Fault Refusal := whenUp s found

/-- JOIN_QUIET_TIMEOUT (R109). -/
def execJoinQuietTimeout (s : State) : Host.Outcome State Fault Refusal := whenUp s joinQuietEnds

/-- SILENT_SLOT (R88). -/
def execSilentSlot (s : State) : Host.Outcome State Fault Refusal := whenUp s silentSlotEnds

/-- SLOT_END (R89). -/
def execSlotEnd (s : State) : Host.Outcome State Fault Refusal := whenUp s occupiedSlotEnds

/-- SLOT_LENGTH_LIMIT (R89). -/
def execSlotLengthLimit (s : State) : Host.Outcome State Fault Refusal := whenUp s slotLimitEnds

end Sys2Proof.Machine
end

