-- ==== Sys2Proof/Machine/StartUp.lean ====
section
/-! DEFINITION. The three starts, holds and supply, and the Configuration Loader (ch. 11; R163, R164, R186). -/

namespace Sys2Proof.Machine

open Sys2Proof

/-! Starts (R186) -/

/-- Every block takes its start values; the History Log is given, and the queue of commands, the pins and the supply, and
the counter of free choices are no block's (R186, R162). -/
def startValues (h : History) (s : State) : State :=
  { State.reset with
      pending := s.pending, choices := s.choices, supply := s.supply, powerHold := s.powerHold, resetnLow := s.resetnLow
      history := h }

/-- The emptied log of a power-on and of a low RESETN (R162). -/
def emptyLog : History := ⟨[], 0⟩

/-- The start that a power-on and a low RESETN begin: the start values, the log emptied, and the transaction in progress
abandoned, `selected` where SSN is low (R163, R186). -/
def heldStart (selected : Bool) (s : State) : State :=
  setTransaction (s.port.transaction.cut selected) (startValues emptyLog s)

/-- POWER_ON (R186): a start, held until the power-on hold ends. -/
def execPowerOn (s : State) (selected : Bool := false) : Host.Outcome State Fault Refusal :=
  .next (heldStart selected { s with supply := true, powerHold := true })

/-- RESETN_LOW (R186): a start, held until RESETN goes high; without supply there is nothing to start. -/
def execResetnLow (s : State) (selected : Bool := false) : Host.Outcome State Fault Refusal :=
  .next (if s.supply then heldStart selected { s with resetnLow := true } else { s with resetnLow := true })

/-- RESETN_HIGH (R186). -/
def execResetnHigh (s : State) : Host.Outcome State Fault Refusal := .next { s with resetnLow := false }

/-- POWER_ON_HOLD_END (R186). -/
def execPowerOnHoldEnd (s : State) : Host.Outcome State Fault Refusal := .next { s with powerHold := false }

/-- LOSS_OF_SUPPLY (R58): every output drops until the next power-on, which sets every value anew (log entry 23). -/
def execLossOfSupply (s : State) : Host.Outcome State Fault Refusal := .next { s with supply := false }

/-- The RESTART entry (R159, R162), under the stamp held when "WARM" was taken. A station without an image has no address:
the entry then names a free station (log entry 4). -/
def recordRestart (stamp : Stamp) (s : State) : State :=
  let entry (station : Nat) : HistoryEntry := { stamp := stamp, kind := .restart, station := station }
  match s.loader.image with
  | some i => recordHistory (entry i.address) s
  | none => recordHistory (entry (Config.restartStation s.choices % Config.stations + 1)) { s with choices := s.choices + 1 }

/-- A warm restart (R163, R186): the RESTART entry first, then the start values, the log kept. -/
def warmRestart (stamp : Stamp) (s : State) : State :=
  let s1 := recordRestart stamp s
  startValues s1.history s1

/-- The warm restart that "WARM", in progress, has requested (R163). -/
def restartIfRequested (s : State) : State :=
  match s.port.running with
  | some c => if c.code = .warm then warmRestart c.stamp s else s
  | none => s

/-- WARM_RESTART (R163). -/
def execWarmRestart (s : State) : Host.Outcome State Fault Refusal := whenUp s restartIfRequested

/-- SSN_RISING (R164, R166): the transaction is over and a partly written CMD or SELECT is discarded; the end of the
transaction that wrote "WARM" begins the warm restart (R163, log entry 15). -/
def endTransaction (s : State) : State :=
  restartIfRequested (s.mapPort (fun p =>
    { p with transaction := .idle, cmdPart := .replicate 4 none, selectPart := .replicate 3 none }))

/-- SSN_RISING (R164); at a held part it only ends the transaction, so that the next fall of SSN begins one (R163). -/
def execSsnRising (s : State) : Host.Outcome State Fault Refusal :=
  .next (if s.up then endTransaction s else setTransaction .idle s)

/-! The Configuration Loader (R182 to R185) -/

/-- A read attempt begins (R182 stage 2). -/
def beginAttempt (s : State) : State :=
  s.mapLoader (fun l => { l with state := .reading, attempts := l.attempts + 1, retryWait := false })

/-- The load becomes FAULT (R185). -/
def loadFault (s : State) : State :=
  setEvent .cfgflt (setLinkState .configFault (s.mapLoader (fun l => { l with state := .fault, retryWait := false })))

/-- Input p at the delivery of an image: one configured unused is filtered inactive and holds no debounce state (R139). -/
def restUnused (s : State) (p : Nat) : State :=
  if (s.inputConfig p).used then s
  else s.modifyInput p (fun i => { i with filtered := .inactive, candidate := false, count := 0 })

/-- A validated image is delivered (R184). -/
def deliverImage (image : Image) (s : State) : State :=
  enterListening
    ((List.range 16).foldl restUnused (s.mapLoader (fun l => { l with state := .delivered, image := some image })))

/-- The loader is reading, not waiting for its next attempt. -/
def State.reading (s : State) : Bool := s.loader.state = .reading && !s.loader.retryWait

/-- The 1 ms wait of WAITING ends (R182 stage 1). -/
def configWaitEnds (s : State) : State := if s.loader.state = .waiting then beginAttempt s else s

/-- An attempt fails (R182 stage 3): a wait of 5 ms, in which the load state stays READING (the model's choice, log entry
34), or FAULT after the third. -/
def attemptFails (s : State) : State :=
  if s.reading then
    if s.loader.attempts < Config.readAttempts then s.mapLoader (fun l => { l with retryWait := true }) else loadFault s
  else s

/-- The 5 ms wait ends (R182 stage 3). -/
def retryWaitEnds (s : State) : State :=
  if s.loader.state = .reading ∧ s.loader.retryWait then beginAttempt s else s

/-- All 256 bytes have been read: CHECKING, and its outcome (R182 stage 4, R183 to R185). -/
def readCompletes (bytes : Vector Byte 256) (s : State) : State :=
  if s.reading then
    let s1 := s.mapLoader (fun l => { l with buffer := bytes, state := .checking })
    match imageOf bytes.toList with
    | some image => deliverImage image s1
    | none => loadFault s1
  else s

/-- CONFIG_WAIT_EXPIRY (R182). -/
def execConfigWaitExpiry (s : State) : Host.Outcome State Fault Refusal := whenUp s configWaitEnds

/-- FAILED_ATTEMPT (R182): either cause has the same effect. -/
def execFailedAttempt (_cause : AttemptFailure) (s : State) : Host.Outcome State Fault Refusal := whenUp s attemptFails

/-- RETRY_WAIT_EXPIRY (R182). -/
def execRetryWaitExpiry (s : State) : Host.Outcome State Fault Refusal := whenUp s retryWaitEnds

/-- CONFIG_READ_COMPLETE (R183). -/
def execConfigReadComplete (bytes : Vector Byte 256) (s : State) : Host.Outcome State Fault Refusal :=
  whenUp s (readCompletes bytes)

end Sys2Proof.Machine
end

