-- ==== Sys2Proof/Machine/Dispatch.lean ====
section
/-! DEFINITION. The meaning of every command: one arm per constructor, each one direct call. -/

namespace Sys2Proof.Machine

open Sys2Proof

def exec (i : Instr) (s : State) : Host.Outcome State Fault Refusal :=
  match i with
  | .powerOn selected => Sys2Proof.Machine.execPowerOn s selected
  | .resetnLow selected => Sys2Proof.Machine.execResetnLow s selected
  | .warmRestart => Sys2Proof.Machine.execWarmRestart s
  | .configWaitExpiry => Sys2Proof.Machine.execConfigWaitExpiry s
  | .failedAttempt cause => Sys2Proof.Machine.execFailedAttempt cause s
  | .retryWaitExpiry => Sys2Proof.Machine.execRetryWaitExpiry s
  | .configReadComplete bytes => Sys2Proof.Machine.execConfigReadComplete bytes s
  | .inputSample closed => Sys2Proof.Machine.execInputSample closed s
  | .inputEvent point => Sys2Proof.Machine.execInputEvent point s
  | .buttonSample ack silence reset test => Sys2Proof.Machine.execButtonSample ack silence reset test s
  | .ackPress => Sys2Proof.Machine.execAckPress s
  | .resetPress => Sys2Proof.Machine.execResetPress s
  | .silencePress => Sys2Proof.Machine.execSilencePress s
  | .testPress => Sys2Proof.Machine.execTestPress s
  | .testRelease => Sys2Proof.Machine.execTestRelease s
  | .flashClockTick => Sys2Proof.Machine.execFlashClockTick s
  | .lampTestExpiry => Sys2Proof.Machine.execLampTestExpiry s
  | .rejoinDelayExpiry => Sys2Proof.Machine.execRejoinDelayExpiry s
  | .frameStart => Sys2Proof.Machine.execFrameStart s
  | .collision => Sys2Proof.Machine.execCollision s
  | .frameEndByGap => Sys2Proof.Machine.execFrameEndByGap s
  | .invalidFrame => Sys2Proof.Machine.execInvalidFrame s
  | .markReceived bytes => Sys2Proof.Machine.execMarkReceived bytes s
  | .slotFrameReceived bytes inside => Sys2Proof.Machine.execSlotFrameReceived bytes s inside
  | .ownedListReceived bytes inside => Sys2Proof.Machine.execOwnedListReceived bytes s inside
  | .slotFrameSend => Sys2Proof.Machine.execSlotFrameSend s
  | .ownSlotFrameSent inside removedFirst => Sys2Proof.Machine.execOwnSlotFrameSent s inside removedFirst
  | .ownedListSend => Sys2Proof.Machine.execOwnedListSend s
  | .ownedListSent => Sys2Proof.Machine.execOwnedListSent s
  | .markTimerExpiry => Sys2Proof.Machine.execMarkTimerExpiry s
  | .listenWindowExpiry => Sys2Proof.Machine.execListenWindowExpiry s
  | .founding => Sys2Proof.Machine.execFounding s
  | .joinQuietTimeout => Sys2Proof.Machine.execJoinQuietTimeout s
  | .silentSlot => Sys2Proof.Machine.execSilentSlot s
  | .slotEnd => Sys2Proof.Machine.execSlotEnd s
  | .slotLengthLimit => Sys2Proof.Machine.execSlotLengthLimit s
  | .acka => Sys2Proof.Machine.execAcka s
  | .ackp => Sys2Proof.Machine.execAckp s
  | .rsta => Sys2Proof.Machine.execRsta s
  | .shlv => Sys2Proof.Machine.execShlv s
  | .unsh => Sys2Proof.Machine.execUnsh s
  | .siln => Sys2Proof.Machine.execSiln s
  | .test => Sys2Proof.Machine.execTest s
  | .clrh => Sys2Proof.Machine.execClrh s
  | .isol => Sys2Proof.Machine.execIsol s
  | .rjon => Sys2Proof.Machine.execRjon s
  | .lkey => Sys2Proof.Machine.execLkey s
  | .warm => Sys2Proof.Machine.execWarm s
  | .abrt => Sys2Proof.Machine.execAbrt s
  | .unknownCommand code => Sys2Proof.Machine.execUnknownCommand code s
  | .overrun code => Sys2Proof.Machine.execOverrun code s
  | .eventsWrite offset value => Sys2Proof.Machine.execEventsWrite offset value s
  | .eventmaskWrite offset value => Sys2Proof.Machine.execEventmaskWrite offset value s
  | .countersWrite offset value => Sys2Proof.Machine.execCountersWrite offset value s
  | .selectWrite object index => Sys2Proof.Machine.execSelectWrite object index s
  | .recordLoad => Sys2Proof.Machine.execRecordLoad s
  | .registerWrite address value => Sys2Proof.Machine.execRegisterWrite address value s
  | .resetnHigh => Sys2Proof.Machine.execResetnHigh s
  | .powerOnHoldEnd => Sys2Proof.Machine.execPowerOnHoldEnd s
  | .lossOfSupply => Sys2Proof.Machine.execLossOfSupply s
  | .ssnRising => Sys2Proof.Machine.execSsnRising s

end Sys2Proof.Machine
end

