-- ==== Sys2Proof/Machine/Flags.lean ====
section
/-! DEFINITION. The outputs of the part, functions of the state: IRQN, TRIP, LKDE, the lamp patterns and the horn (ch. 3, 8,
10). While a start holds the part, or without supply, every output is inactive (R186, R58). -/

namespace Sys2Proof.Machine

open Sys2Proof

/-- The patterns of R145. -/
inductive Pattern where
  | off | steady | fast | slow | double
  deriving DecidableEq, Repr

/-- An output with a pattern is on at a position of the flash clock (R145). -/
def Pattern.on (p : Pattern) (clock : Nat) : Bool :=
  match p with
  | .off => false
  | .steady => true
  | .fast => clock % 250 < 125
  | .slow => clock < 500
  | .double => clock < 100 || (200 ≤ clock && clock < 300)

/-- IRQN is low: some flag is set whose enable is set (R168). -/
def irqnLow (s : State) : Bool := s.up && (s.port.events &&& s.port.enables) != 0

/-- The TRIP output (R58). -/
def tripOutput (s : State) : Bool := s.up && s.groups.latch

/-- LKDE is active: a frame of the station's own is being sent (R77). -/
def lkde (s : State) : Bool := s.up && s.link.sending.isSome

/-- The modal state is LAMP TEST (R152, R179). -/
def State.lampTesting (s : State) : Bool :=
  match s.port.modal with
  | .lampTest _ => true
  | .isolated _ => false
  | .none => false

/-- The pattern of a record's window (R144). -/
def recordPattern (r : PointRecord) : Pattern :=
  match r.state with
  | .normal => .off
  | .alert => if r.firstOut then .double else .fast
  | .returned => .fast
  | .acked => .steady
  | .ringback => .slow

/-- The pattern of window w (R143, R144, R152). -/
def windowPattern (s : State) (w : Nat) : Pattern :=
  if s.lampTesting then .steady
  else match s.windowMap w with
    | some id => recordPattern (s.record id)
    | none => .off

/-- The pattern of zone lamp z (R53, R146, R152). -/
def zoneLampPattern (s : State) (z : Nat) : Pattern :=
  if s.lampTesting then .steady
  else if 0 < (s.zone z).alerting then .fast
  else if 0 < (s.zone z).lost then .slow
  else if 0 < (s.zone z).standing then .steady
  else .off

/-- Some entry of the Station Directory is LOST (R153). -/
def State.someLost (s : State) : Bool := addresses.any (fun k => (s.entry k).liveness = .lost)

/-- The pattern of the fault lamp (R153, R152). -/
def faultLampPattern (s : State) : Pattern :=
  if s.lampTesting then .steady
  else match s.link.state with
    | .conflict => .fast
    | .mismatch => .fast
    | .configFault => .fast
    | .listening => .slow
    | .joining => .slow
    | .isolated => .slow
    | .running => if s.someLost ∨ 0 < s.list.unlistedCount then .steady else .off
    | .configuring => if s.someLost ∨ 0 < s.list.unlistedCount then .steady else .off

/-- A lamp driver is on (R145, R186). -/
def lampOutput (s : State) (p : Pattern) : Bool := s.up && p.on s.panel.flash

/-- The horn's sound (R147). -/
inductive HornSound where
  | silent | pulsed | steady
  deriving DecidableEq, Repr

/-- A record calls the horn (R147). -/
def State.calls (s : State) (id : PointId) : Bool :=
  let r := s.record id
  s.inView id && (r.state = .alert || r.state = .returned) && (r.attrs.cls = .alarm || r.attrs.cls = .shutdown)
    && Stamp.earlier s.panel.silence (r.alert.getD stampZero)

/-- What the horn sounds (R147). -/
def hornSound (s : State) : HornSound :=
  if allPoints.any (fun id => s.calls id && (s.record id).attrs.cls = .shutdown) then .pulsed
  else if allPoints.any s.calls then .steady
  else .silent

/-- The horn output (R147, R145): PULSED is on in 0..499 of the flash clock. -/
def hornOutput (s : State) : Bool :=
  s.up && match hornSound s with
    | .silent => false
    | .steady => true
    | .pulsed => s.panel.flash < 500

end Sys2Proof.Machine
end

