-- ==== Sys2Proof/Machine/Wires.lean ====
section
/-! DEFINITION. The serial lines: the characters on LKTX (R77), the bytes and bits of a transaction of the supervisory port
(R164) with the commands it brings, and the lines of the configuration bus (R182, R186). -/

namespace Sys2Proof.Machine

open Sys2Proof

/-! The link (R77) -/

/-- A bit time in µs (R77). -/
def BitRate.bitTime : BitRate → Nat
  | .kbit125 => 8
  | .kbit250 => 4
  | .kbit500 => 2

/-- The ten bits of a character: start bit low, eight data bits least significant first, stop bit high (R77). -/
def characterBits (b : Byte) : List Bool := false :: (List.range 8).map b.getLsbD ++ [true]

/-- The bits of a frame's characters, sent back to back (R77). -/
def lineBits (bytes : List Byte) : List Bool := bytes.flatMap characterBits

/-- LKTX in the n-th bit time of the frame being sent, counted from its first start bit; high while LKDE is inactive (R77,
R186). -/
def lktx (s : State) (n : Nat) : Bool :=
  if lkde s then
    match s.link.sending with
    | some f => (lineBits f.bytes).getD n true
    | none => true
  else true

/-- The bits of a byte, most significant first (R164, R182). -/
def msbFirst (b : Byte) : List Bool := (List.range 8).map (fun i => b.getLsbD (7 - i))

/-! The supervisory port (R164) -/

/-- The bytes that SCK shifts in, most significant bit first; the rise of SSN in the middle of a byte discards it (R164). -/
def wholeBytes : List Bool → List Byte
  | b7 :: b6 :: b5 :: b4 :: b3 :: b2 :: b1 :: b0 :: rest =>
    (bit b7 7 ||| bit b6 6 ||| bit b5 5 ||| bit b4 4 ||| bit b3 3 ||| bit b2 2 ||| bit b1 1 ||| bit b0 0) :: wholeBytes rest
  | _ => []

/-- The address byte asks for a read (R164). -/
def isRead (addressByte : Byte) : Bool := addressByte.getLsbD 7

/-- The first address of a transaction, 00h to 7Fh (R164). -/
def firstAddress (addressByte : Byte) : Nat := addressByte.toNat % 128

/-- The commands that the data bytes of a write bring, each at the current address, which advances (R164). -/
def writeRows : Nat → List Byte → List Instr
  | _, [] => []
  | address, v :: vs => .registerWrite (BitVec.ofNat 7 address) v :: writeRows (nextAddress address) vs

/-- The commands that n data bytes of a read bring: a load of the record latch at each byte of 4Fh (R164, R170). -/
def readRows : Nat → Nat → List Instr
  | _, 0 => []
  | address, n + 1 =>
    if address = 0x4F then .recordLoad :: readRows (nextAddress address) n else readRows (nextAddress address) n

/-- The commands that a transaction brings, from the fall of SSN to its rise (R164). -/
def transactionRows (mosi : List Bool) : List Instr :=
  match wholeBytes mosi with
  | [] => [.ssnRising]
  | a :: data => (if isRead a then readRows (firstAddress a) data.length else writeRows (firstAddress a) data) ++ [.ssnRising]

/-- The bytes on MISO in a transaction: 00h under the address byte and throughout a write, the window's bytes in a read,
one for each state the part is in when the byte's first bit is shifted out (R164). -/
def misoBytes (addressByte : Byte) (states : List State) : List Byte :=
  0 :: if isRead addressByte then readTransaction (firstAddress addressByte) states else states.map (fun _ => 0)

/-- MISO is at high impedance: SSN is high, the part is held, or a start has abandoned the transaction (R163, R164, R186). -/
def misoReleased (ssnLow : Bool) (s : State) : Bool := !(ssnLow && s.serves)

/-- The bits that a transaction shifts out on MISO, each byte most significant bit first (R164). -/
def misoBits (addressByte : Byte) (states : List State) : List Bool := (misoBytes addressByte states).flatMap msbFirst

/-- MISO after n falling edges of SCK in the transaction, none for high impedance: the bit that the next rising edge of SCK
samples. MISO changes on the falling edge only, and the states are those at the first falling edge of each data byte
(R164). -/
def miso (ssnLow : Bool) (s : State) (addressByte : Byte) (states : List State) (n : Nat) : Option Bool :=
  if misoReleased ssnLow s then none else some ((misoBits addressByte states).getD n false)

/-! The configuration bus (R182, R186) -/

/-- What the loader does on the configuration bus: a clock pulse with CFGDA released, the two conditions, a byte it sends, a
byte it reads with the acknowledge it gives (R182). -/
inductive BusStep where
  | recoveryPulse
  | start
  | send (b : Byte)
  | read (acknowledge : Bool)
  | stop
  deriving DecidableEq, Repr

/-- CFGCK and CFGDA as the loader drives them, `true` for released; the lines are open-drain. -/
structure BusLevels where
  ck : Bool
  da : Bool
  deriving DecidableEq, Repr

/-- CFGDA on the bus: low when the loader or the memory holds it low. -/
def busData (loader : BusLevels) (memoryReleases : Bool) : Bool := loader.da && memoryReleases

/-- One clock pulse with CFGDA set while CFGCK is low and kept while it is high (R182). -/
def busPulse (da : Bool) : List BusLevels := [⟨false, da⟩, ⟨true, da⟩, ⟨false, da⟩]

/-- The levels of a step. A condition is a change of CFGDA while CFGCK is high; in the ninth pulse of a byte its sender
releases CFGDA and its receiver holds it low to acknowledge (R182). -/
def BusStep.levels : BusStep → List BusLevels
  | .recoveryPulse => [⟨false, true⟩, ⟨true, true⟩]
  | .start => [⟨true, true⟩, ⟨true, false⟩, ⟨false, false⟩]
  | .send b => (msbFirst b ++ [true]).flatMap busPulse
  | .read acknowledge => (List.replicate 8 true ++ [!acknowledge]).flatMap busPulse
  | .stop => [⟨false, true⟩, ⟨false, false⟩, ⟨true, false⟩, ⟨true, true⟩]

/-- What an attempt reads on CFGDA: before and after each recovery pulse, in the ninth pulse of the three address bytes, and
in the eight pulses of each byte read. -/
structure BusReadings where
  recovery : Vector Bool 10
  deviceWrite : Bool
  wordAddress : Bool
  deviceRead : Bool
  data : List Bool
  deriving DecidableEq, Repr

/-- The recovery pulses given: while CFGDA reads low, at most nine (R182 stage 2). -/
def BusReadings.pulses (r : BusReadings) : Nat := (r.recovery.toList.take 9).findIdx id

/-- Freeing the bus: nothing when CFGDA reads high, else the pulses and a stop condition (R182 stage 2). -/
def BusReadings.freeing (r : BusReadings) : List BusStep :=
  if r.pulses = 0 then [] else List.replicate r.pulses .recoveryPulse ++ [.stop]

/-- CFGDA is still low after the nine recovery pulses (R182 stage 3). -/
def BusReadings.held (r : BusReadings) : Bool := !tableGet r.recovery r.pulses false

/-- The bytes and conditions of an attempt on a free bus, up to the first address byte that is not acknowledged: word
address 00h written to the memory at address 50h, then 256 bytes read in sequence, each acknowledged but the last (R182,
R195). -/
def BusReadings.reading (r : BusReadings) : List BusStep :=
  [.start, .send 0xA0] ++ if r.deviceWrite then [.stop] else
    [.send 0x00] ++ if r.wordAddress then [.stop] else
      [.start, .send 0xA1] ++ if r.deviceRead then [.stop] else
        List.replicate 255 (.read true) ++ [.read false, .stop]

/-- The steps of a read attempt (R182 stages 2 and 3). One stop condition ends the recovery pulses of an attempt that fails
there (log entry 16). -/
def attemptSteps (r : BusReadings) : List BusStep := r.freeing ++ if r.held then [] else r.reading

/-- The row that an attempt ends with: its failure, or the 256 bytes read (R182 stages 3 and 4). -/
def attemptRow (r : BusReadings) : Instr :=
  if r.held then .failedAttempt .dataLineHeld
  else if r.deviceWrite ∨ r.wordAddress ∨ r.deviceRead then .failedAttempt .noAcknowledge
  else .configReadComplete (Vector.ofFn (fun i => byteAt (wholeBytes r.data) i.val))

/-- CFGCK and CFGDA are released: the part is held, or no read attempt is being made (R182, R186). -/
def configBusReleased (s : State) : Bool := !(s.up && s.reading)

/-- CFGCK and CFGDA as the loader drives them, in the n-th moment of the attempt with these readings; both are released
after its last step (R182, R186). -/
def configLevels (s : State) (r : BusReadings) (n : Nat) : BusLevels :=
  if configBusReleased s then ⟨true, true⟩ else ((attemptSteps r).flatMap BusStep.levels).getD n ⟨true, true⟩

end Sys2Proof.Machine
end

