-- ==== Sys2Proof/Safety.lean ====
section
/-! DEFINITION. What stays true of the state at every step, and which frames and notices a PB-24 can send: the predicates
that statements are made of. -/

namespace Sys2Proof.Machine

open Sys2Proof

/-! Ranges that every step keeps -/

/-- The History Log is within its 48 entries and its overflow count within 65,535 (R154, R160). -/
structure History.Bounded (h : History) : Prop where
  length : h.entries.length ≤ 48
  overflow : h.overflow ≤ 65535

/-- The trip latch is set whenever trip demand exists (R56). -/
def GroupUnit.Latched (g : GroupUnit) : Prop := 0 < g.demand → g.latch = true

/-- The saturating counters of the Link Controller are within 255 (R79, R82, R91). -/
structure Link.Bounded (l : Link) : Prop where
  frameErrors : l.frameErrors ≤ 255
  collisions : l.collisions ≤ 255
  slips : l.slips ≤ 255

/-- The overrun count is within 255 and the index of the record selector within its object (R172, R169). -/
structure Port.Bounded (p : Port) : Prop where
  overrun : p.overrun ≤ 255
  index : p.index < p.object.size

/-- The flash clock is within 0..999 and the button filters within 0..19 (R145, R150). -/
structure Panel.Bounded (p : Panel) : Prop where
  flash : p.flash ≤ 999
  ack : p.ackButton.count ≤ 19
  silence : p.silenceButton.count ≤ 19
  reset : p.resetButton.count ≤ 19
  test : p.testButton.count ≤ 19

/-- The debounce count of an input is within 0..15 and its chatter count within 255 (R140, R70). -/
structure InputState.Bounded (i : InputState) : Prop where
  count : i.count ≤ 15
  chatter : i.chatter ≤ 255

/-- The attempt count is within 0..3, 0 in WAITING and below 3 while a next attempt is awaited (R182); a validated image has
debounce times of 0..15 (R140, R195). -/
structure Loader.Bounded (l : Loader) : Prop where
  attempts : l.attempts ≤ 3
  waiting : l.state = .waiting → l.attempts = 0
  retry : l.retryWait = true → l.attempts < 3
  debounce : ∀ i, l.image = some i → ∀ c ∈ i.inputs, c.debounce ≤ 15

/-- Every log, saturating counter, clock, filter and attempt count of the part is within its range, every queued notice is
younger than 8 cycles (R71), and the trip latch covers the trip demand. Of the counts, those of collisions in a row (R86,
R90), the unlisted count (R28) and those of the zone summaries (R50) are not among them. -/
structure State.Bounded (s : State) : Prop where
  history : s.history.Bounded
  groups : s.groups.Latched
  link : s.link.Bounded
  port : s.port.Bounded
  panel : s.panel.Bounded
  generation : s.list.generation ≤ 255
  lapses : s.agreement.lapses ≤ 255
  inputs : ∀ p, (s.input p).Bounded
  notices : ∀ q ∈ s.notices, q.age ≤ 7
  loader : s.loader.Bounded

/-- The modal state is ISOLATED. -/
def Modal.isIsolated : Modal → Bool
  | .isolated _ => true
  | .lampTest _ => false
  | .none => false

/-! What the modes of the part have to do with one another -/

/-- The Notice Queue has at most twelve places and is empty in every link state that sends nothing (R65, R76); from
LISTENING on an image has been delivered (R184); panel notices are held in RUNNING only (R68); the modal state is ISOLATED
exactly in the link state of that name (R179). -/
structure State.Consistent (s : State) : Prop where
  places : s.notices.length ≤ 12
  quiet : s.link.state.sends = false → s.notices = []
  loaded : s.link.state.unconfigured = false → s.loader.state = .delivered
  image : s.loader.state = .delivered → s.loader.image.isSome = true
  held : s.link.state ≠ .running → s.panel.heldAck = none ∧ s.panel.heldReset = none
  modal : s.link.state = .isolated ↔ s.port.modal.isIsolated = true

/-! Frames that a PB-24 sends (R60, R80, R188) -/

/-- A stamp whose fields fit their bytes (R188). -/
def stampFits (t : Stamp) : Bool := t.cycle < 2 ^ 40 && t.slot < 256 && t.position < 256

/-- Attributes within their range (R4). -/
def attributesFit (a : Attributes) : Bool := a.group ≤ 8

/-- A notice with its fields in the ranges of R60. -/
def noticeFits (n : Notice) : Bool :=
  match n with
  | .raise p o a => p ≤ 15 && o ≤ 255 && attributesFit a
  | .clear p o a => p ≤ 15 && o ≤ 255 && attributesFit a
  | .ackUpto _ limit => stampFits limit
  | .ackPoint w p o => pointInRange w p && o ≤ 255
  | .resetUpto _ limit => stampFits limit
  | .shelve w p => pointInRange w p
  | .unshelve w p => pointInRange w p
  | .join _ => true
  | .resyncRequest t => 1 ≤ t && t ≤ 24

/-- A list entry with its fields in range (R134, R191). -/
def entryFits (e : ListEntry) : Bool :=
  e.point ≤ 15 && e.occurrence ≤ 255 && attributesFit e.attrs && stampFits e.alert

/-- A MARK that a station on a link of `slots` slots can send (R80, R85). -/
def markFits (slots : Nat) (f : MarkFrame) : Bool :=
  1 ≤ f.sender && f.sender ≤ slots && f.slots < 256 && f.cycle < 2 ^ 40

/-- A SLOT frame that a station can send (R80, R90). -/
def slotFits (slots : Nat) (f : SlotFrame) : Bool :=
  1 ≤ f.sender && f.sender ≤ slots && f.zone < 256 && f.cycle < 2 ^ 40 && f.notices.length ≤ 6
    && f.notices.all (fun n => match n with
      | some n => noticeFits n
      | none => false)

/-- An OWNED LIST that a station can send (R80, R133). -/
def listFits (slots : Nat) (f : ListFrame) : Bool :=
  1 ≤ f.sender && f.sender ≤ slots && f.cycleLow < 65536 && f.entries.length == 16
    && f.entries.all (fun e => match e with
      | some e => entryFits e
      | none => false)

/-! The mailbox, as statements speak of it (R172, R173) -/

/-- The command of the table that writes a code into CMD. -/
def Instr.ofCommand : CommandCode → Instr
  | .acka => .acka
  | .ackp => .ackp
  | .rsta => .rsta
  | .shlv => .shlv
  | .unsh => .unsh
  | .siln => .siln
  | .test => .test
  | .clrh => .clrh
  | .isol => .isol
  | .rjon => .rjon
  | .lkey => .lkey
  | .warm => .warm

/-- The port takes bytes and no command is in progress. -/
def State.mailboxIdle (s : State) : Bool := s.serves && s.port.running.isNone

/-- An image has been delivered: the link state is LISTENING or a later one. -/
def State.configured (s : State) : Bool := !s.link.state.unconfigured

/-- The port with the byte at an address written: the current address of the transaction advances (R164). -/
def Port.wrote (address : Nat) (p : Port) : Port := { p with transaction := .writing (nextAddress address) }

/-- The mailbox with the write of CMD made, its last byte at 1Dh: the bytes collected so far are used up. -/
def Port.written (p : Port) : Port := { p.wrote 0x1D with cmdPart := .replicate 4 none }

/-- The mailbox that has taken a command at a current stamp: inputs captured, overrun count 0. -/
def Port.taken (code : CommandCode) (stamp : Stamp) (p : Port) : Port :=
  { p.written with running := some { code := code, inputs := p.data, abortWaiting := false, stamp := stamp }, overrun := 0 }

/-- The mailbox after the one step of R173: output with the overrun count last, result, CMD 0, CMDDONE. -/
def Port.completed (result : CommandResult) (output : List Byte) (p : Port) : Port :=
  { p with running := none, result := result, data := completionData output p.overrun,
           events := p.events ||| ((1 : BitVec 12) <<< Event.cmddone.bit) }

/-- The mailbox with one more event flag set. -/
def Port.flagged (e : Event) (p : Port) : Port := { p with events := p.events ||| ((1 : BitVec 12) <<< e.bit) }

/-- The Group and Zone Unit after a local reset action, by the table of R57. -/
def GroupUnit.released (g : GroupUnit) : GroupUnit := if g.latch = true ∧ g.demand = 0 then { g with latch := false } else g

/-! What a table treatment and an own initialisation make of the records (R136, R23) -/

/-- The records of t are those of s after the table treatment for cycle c: field records of other owners reset, own ones that
are not NORMAL restamped, link-lost ones kept, every unlisted flag cleared (R38); a first-out flag is only ever lost,
to an earlier claim (R49); the silence stamp is 0.0.0 (R149). -/
structure State.Treated (c : Nat) (s t : State) : Prop where
  peers : ∀ k p, 1 ≤ k → k ≤ 24 → k ≠ s.own → p ≤ 15 → t.record ⟨k, p⟩ = .reset
  own : ∀ p, p ≤ 15 → t.record ⟨s.own, p⟩ = { s.record ⟨s.own, p⟩ with
    unlisted := false
    firstOut := (t.record ⟨s.own, p⟩).firstOut
    alert := if (s.record ⟨s.own, p⟩).state = .normal then (s.record ⟨s.own, p⟩).alert else some ⟨c, s.own, 16 + p⟩ }
  linkLost : ∀ k, 1 ≤ k → k ≤ 24 → t.record ⟨k, 16⟩ = { s.record ⟨k, 16⟩ with
    unlisted := false
    firstOut := (t.record ⟨k, 16⟩).firstOut }
  flags : ∀ id, (t.record id).firstOut = true → (s.record id).firstOut = true
  silence : t.panel.silence = ⟨0, 0, 0⟩

/-- The input of own point p asks for an active point: it is used and its filtered condition is active (R23). -/
def State.inputActive (s : State) (p : Nat) : Bool := (s.inputConfig p).used && s.filteredActive p

/-- The records of t are those of s after own initialisation in cycle c: the sixteen own field records and the announced
conditions from the inputs; any other record can only win or lose a place in the Alarm List. -/
structure State.Initialised (c : Nat) (s t : State) : Prop where
  own : ∀ p, p ≤ 15 → t.record ⟨s.own, p⟩ = { PointRecord.reset with
    attrs := (s.inputConfig p).attrs
    active := s.inputActive p
    occurrence := if s.inputActive p then 1 else 0
    state := if s.inputActive p ∧ (s.inputConfig p).attrs.cls ≠ .advisory then .alert else .normal
    alert := if s.inputActive p ∧ (s.inputConfig p).attrs.cls ≠ .advisory then some ⟨c, s.own, 16 + p⟩ else none
    unlisted := (t.record ⟨s.own, p⟩).unlisted }
  announced : ∀ p, p ≤ 15 → (t.input p).announced = s.inputActive p
  others : ∀ id, id.owner ≠ s.own ∨ id.point = 16 → t.record id = { s.record id with unlisted := (t.record id).unlisted }
  flag : t.link.ownInitialised = true

/-! Counts that the Group and Zone Unit keeps (R54) -/

/-- The points of the table whose records are trip causes. -/
def State.causes (s : State) : List PointId :=
  allPoints.filter (fun id => tripCause s (s.zoneOf id.owner) id (s.record id))

/-- The liveness that a silent slot gives (R101). -/
def Liveness.afterSilence : Liveness → Liveness
  | .unknown => .unknown
  | .live => .silent1
  | .silent1 => .silent2
  | .silent2 => .lost
  | .lost => .lost

/-- The queued notices for own point p (R70). -/
def State.noticesFor (s : State) (p : Nat) : List QueuedNotice := s.notices.filter (fun q => (conditionFor p q).isSome)

end Sys2Proof.Machine
end

