-- ==== Sys2Proof/Certificates/Slice0/Obligations.lean ====
section
/-! DEFINITION. The statements about the PB-24, one `Prop` each: steps, starts, loader, inputs, panel, link, tables,
mailbox, port, records, and what every step keeps. An equation `exec c s = .next { s with … }` is a frame as well: every
field that it does not name is as before. -/

open Sys2Proof Sys2Proof.Machine

/-! ## Steps and starts -/

/-- A step executes the command at the front of the queue on the rest; with none waiting the block idles (the model's
choice, log entry 2). -/
def Obligations.StepExecutesTheFrontCommand : Prop :=
  (∀ (c : Instr) (s : State), step { s with pending := c :: s.pending } = exec c s)
    ∧ ∀ s : State, s.pending = [] → step s = .next s

/-- Power-on and a low RESETN give every block its start values and empty the log (R186, R162); of the port, only that a
transaction in progress is abandoned is left (R163, log entry 37): `selected` says whether SSN is low. The queue of commands and the counter of free choices
are the model's own (log entries 3 and 6). That a loss of supply, and a low RESETN without supply, change one pin and
leave every block's contents is the model's reading (log entry 23). -/
def Obligations.StartsGiveTheStartValues : Prop :=
  let port (selected : Bool) (s : State) : Port := { Port.reset with transaction := s.port.transaction.cut selected }
  (∀ (s : State) (selected : Bool), exec (.powerOn selected) s = .next
      { State.reset with
          pending := s.pending, choices := s.choices, powerHold := true, resetnLow := s.resetnLow
          port := port selected s })
    ∧ (∀ (s : State) (selected : Bool), s.supply = true → exec (.resetnLow selected) s = .next
      { State.reset with
          pending := s.pending, choices := s.choices, powerHold := s.powerHold, resetnLow := true
          port := port selected s })
    ∧ (∀ (s : State) (selected : Bool), s.supply = false →
      exec (.resetnLow selected) s = .next { s with resetnLow := true })
    ∧ (∀ s : State, exec .resetnHigh s = .next { s with resetnLow := false })
    ∧ (∀ s : State, exec .powerOnHoldEnd s = .next { s with powerHold := false })
    ∧ (∀ s : State, exec .lossOfSupply s = .next { s with supply := false })
    ∧ ∀ t : Transaction, t.cut true = .abandoned ∧ (t ≠ .idle → t.cut false = .abandoned)
        ∧ Transaction.idle.cut false = .idle

/-- The rise of SSN that ends the transaction of "WARM" restarts the part: RESTART under the stamp held when "WARM" was
taken, the log kept, everything else at its start values. Without an image the entry names some station (log entry 4).
The end of any other transaction discards a partly written CMD or SELECT. That the row SSN_RISING itself restarts the
part as WARM_RESTART does, and that WARM_RESTART without a "WARM" in progress changes nothing, are the model's readings
(log entries 15 and 1). -/
def Obligations.WarmRestartKeepsTheLog : Prop :=
  (∀ (s : State) (c : RunningCommand), s.up = true → s.port.running = some c → c.code = .warm →
    ∀ i ∈ [Instr.warmRestart, Instr.ssnRising],
      (∀ image, s.loader.image = some image → exec i s = .next
        { State.reset with
            pending := s.pending, choices := s.choices
            history := s.history.append { stamp := c.stamp, kind := .restart, station := image.address } })
      ∧ (s.loader.image = none → ∃ a, 1 ≤ a ∧ a ≤ 24 ∧ exec i s = .next
        { State.reset with
            pending := s.pending, choices := s.choices + 1
            history := s.history.append { stamp := c.stamp, kind := .restart, station := a } }))
  ∧ ∀ s : State, s.up = true → (∀ c, s.port.running = some c → c.code ≠ .warm) →
      exec .ssnRising s = .next
        { s with port := { s.port with
            transaction := .idle, cmdPart := .replicate 4 none, selectPart := .replicate 3 none } }
      ∧ exec .warmRestart s = .next s

/-- A part that is held or unsupplied ignores every command but those of its supply, its hold and RESETN (log entry 23);
the rise of SSN only ends a transaction. All its outputs are inactive, LKTX is high, and the lines it shares are
released. -/
def Obligations.HeldPartIsInactive : Prop :=
  ∀ s : State, s.up = false →
    (∀ c : Instr, (∀ selected, c ≠ .powerOn selected ∧ c ≠ .resetnLow selected) →
      c ∉ [Instr.resetnHigh, .powerOnHoldEnd, .lossOfSupply, .ssnRising] → exec c s = .next s)
    ∧ exec .ssnRising s = .next { s with port := { s.port with transaction := .idle } }
    ∧ irqnLow s = false ∧ tripOutput s = false ∧ lkde s = false ∧ hornOutput s = false
    ∧ (∀ p, lampOutput s p = false) ∧ (∀ n, lktx s n = true)
    ∧ (∀ ssnLow, misoReleased ssnLow s = true) ∧ configBusReleased s = true

/-! ## The Configuration Loader -/

/-- The load: an attempt begins after the 1 ms wait; a failed one is followed by a wait that begins the next; the failure
of the third, and a buffer that is no valid image, lead to FAULT and CONFIG FAULT, with LINKCHG and CFGFLT. A valid image
is delivered: LISTENING is entered, with no history entry and no record changed, and an input that the image leaves
unused is filtered inactive. The load state of the wait after a failed attempt, READING, is the model's choice (log entry
34). On the bus an attempt first frees it, is given up at the first address byte that is not acknowledged, reads 256 bytes
and ends with the row that its readings give; the levels of a byte, of its acknowledge and of the two conditions. That one
stop condition ends an attempt whose recovery pulses fail is the model's choice (log entry 16). -/
def Obligations.LoaderReadsAndDelivers : Prop :=
  (∀ s : State, s.up = true →
    let fault (buffer : Vector Byte 256) : State :=
      { s with
          loader := { s.loader with state := .fault, retryWait := false, buffer := buffer }
          link := { s.link with state := .configFault }
          port := (s.port.flagged .linkchg).flagged .cfgflt }
    let begins : State :=
      { s with loader := { s.loader with state := .reading, attempts := s.loader.attempts + 1, retryWait := false } }
    (s.loader.state = .waiting → exec .configWaitExpiry s = .next begins)
    ∧ (s.loader.state = .reading → s.loader.retryWait = true → exec .retryWaitExpiry s = .next begins)
    ∧ (s.loader.state = .reading → s.loader.retryWait = false → ∀ cause,
        (s.loader.attempts < 3 →
          exec (.failedAttempt cause) s = .next { s with loader := { s.loader with retryWait := true } })
        ∧ (s.loader.attempts = 3 → s.link.state = .configuring →
          exec (.failedAttempt cause) s = .next (fault s.loader.buffer)))
    ∧ (s.loader.state = .reading → s.loader.retryWait = false → s.link.state = .configuring → ∀ bytes,
        (imageOf bytes.toList = none → exec (.configReadComplete bytes) s = .next (fault bytes))
        ∧ ∀ image, imageOf bytes.toList = some image → s.notices = [] →
          ∃ t, exec (.configReadComplete bytes) s = .next t
            ∧ t.loader = { s.loader with state := .delivered, image := some image, buffer := bytes }
            ∧ t.link.state = .listening ∧ t.link.position = .unsynchronised ∧ t.link.quiet = 0
            ∧ t.link.confirmed = false ∧ t.link.markSeen = false ∧ t.hasEvent .linkchg = true
            ∧ t.points = s.points ∧ t.list = s.list ∧ t.groups = s.groups ∧ t.history = s.history
            ∧ ∀ p, p < 16 → t.input p =
                if (t.inputConfig p).used then s.input p
                else { s.input p with filtered := .inactive, candidate := false, count := 0 }))
  ∧ (∀ r : BusReadings,
    (r.recovery.toList[0]? = some true → r.freeing = [] ∧ r.held = false)
    ∧ (∀ n, 1 ≤ n → n ≤ 9 → (∀ i, i < n → r.recovery.toList[i]? = some false) →
      (n < 9 → r.recovery.toList[n]? = some true) →
      r.freeing = List.replicate n .recoveryPulse ++ [.stop] ∧ (r.held = true ↔ r.recovery.toList[n]? = some false))
    ∧ (r.held = true → attemptSteps r = r.freeing ∧ attemptRow r = .failedAttempt .dataLineHeld)
    ∧ (r.held = false →
      (r.deviceWrite = true →
        attemptSteps r = r.freeing ++ [.start, .send 0xA0, .stop] ∧ attemptRow r = .failedAttempt .noAcknowledge)
      ∧ (r.deviceWrite = false → r.wordAddress = true →
        attemptSteps r = r.freeing ++ [.start, .send 0xA0, .send 0x00, .stop]
          ∧ attemptRow r = .failedAttempt .noAcknowledge)
      ∧ (r.deviceWrite = false → r.wordAddress = false → r.deviceRead = true →
        attemptSteps r = r.freeing ++ [.start, .send 0xA0, .send 0x00, .start, .send 0xA1, .stop]
          ∧ attemptRow r = .failedAttempt .noAcknowledge)
      ∧ (r.deviceWrite = false → r.wordAddress = false → r.deviceRead = false →
        attemptSteps r = r.freeing ++ [.start, .send 0xA0, .send 0x00, .start, .send 0xA1]
            ++ List.replicate 255 (.read true) ++ [.read false, .stop]
          ∧ ∀ bytes : Vector Byte 256,
              r.data = bytes.toList.flatMap (fun b => (List.range 8).map (fun i => b.getLsbD (7 - i))) →
              attemptRow r = .configReadComplete bytes)))
  ∧ (BusStep.start.levels = [⟨true, true⟩, ⟨true, false⟩, ⟨false, false⟩]
      ∧ BusStep.stop.levels = [⟨false, true⟩, ⟨false, false⟩, ⟨true, false⟩, ⟨true, true⟩]
      ∧ BusStep.recoveryPulse.levels = [⟨false, true⟩, ⟨true, true⟩])
  ∧ (∀ (b : Byte) (i : Nat), i < 8 → (BusStep.send b).levels[3 * i + 1]? = some ⟨true, b.getLsbD (7 - i)⟩
      ∧ (BusStep.send b).levels[25]? = some ⟨true, true⟩)
  ∧ (∀ (acknowledge : Bool) (i : Nat), i < 8 → (BusStep.read acknowledge).levels[3 * i + 1]? = some ⟨true, true⟩
      ∧ (BusStep.read acknowledge).levels[25]? = some ⟨true, !acknowledge⟩)
  ∧ (∀ (step : BusStep) (i : Nat) (x y : BusLevels), step ≠ .start → step ≠ .stop → step.levels[i]? = some x →
      step.levels[i + 1]? = some y → x.da ≠ y.da → x.ck = false ∧ y.ck = false)
  ∧ ∀ (s : State) (r : BusReadings) (n : Nat), s.up = false ∨ s.loader.state ≠ .reading ∨ s.loader.retryWait = true →
      configLevels s r n = ⟨true, true⟩

/-- Which buffers are valid images, by the conditions of R183 at the places of R195. -/
def Obligations.ImageValidity : Prop :=
  ∀ bytes : Vector Byte 256, (imageOf bytes.toList).isSome = true ↔
    (let b (i : Nat) : Nat := (byteAt bytes.toList i).toNat
     b 0x00 = 0x50 ∧ b 0x01 = 0x24 ∧ b 0x02 = 1 ∧ b 0x03 = 0
      ∧ b 0xFE * 256 + b 0xFF = (frameCheck (bytes.toList.take 0xFE)).toNat
      ∧ 1 ≤ b 0x04 ∧ b 0x04 ≤ 24 ∧ 2 ≤ b 0x05 ∧ b 0x05 ≤ 24 ∧ b 0x04 ≤ b 0x05
      ∧ 1 ≤ b 0x06 ∧ b 0x06 ≤ 3 ∧ 1 ≤ b 0x07 ∧ b 0x07 ≤ 8 ∧ b 0x0A ≤ 1
      ∧ (∀ p, p < 16 → b (0x0B + 3 * p) ≤ 1 ∧ b (0x0B + 3 * p + 2) % 4 ≠ 0 ∧ b (0x0B + 3 * p + 2) / 16 ≤ 8)
      ∧ ∀ w, w < 24 → b (0x3B + 2 * w) = 0 ∨ (b (0x3B + 2 * w) ≤ 24 ∧ b (0x3B + 2 * w + 1) ≤ 16))

/-! ## Field inputs -/

/-- One sample filters every used input under its polarity and debounce, and nothing else changes; before an image is
delivered no input is sampled. The table of the filter, its start values, and how an UNSETTLED condition is read. That the
row INPUT_SAMPLE does the whole filter, its settling included, and makes no offer is the model's reading (log entry 12). -/
def Obligations.InputSampleFilters : Prop :=
  (∀ (s : State) (closed : BitVec 16), s.up = true →
    (s.configured = false → exec (.inputSample closed) s = .next s)
    ∧ (s.configured = true → ∃ t, exec (.inputSample closed) s = .next t ∧ t = { s with scanner := t.scanner }
        ∧ ∀ p, p < 16 → t.input p =
            if (s.inputConfig p).used then
              sampleFilter (s.inputConfig p).debounce
                (if (s.inputConfig p).activeOpen then !closed.getLsbD p else closed.getLsbD p) (s.input p)
            else s.input p))
  ∧ (∀ (debounce : Nat) (sample : Bool) (i : InputState), i.filtered = .unsettled →
    ((i.count = 0 ∨ sample = i.candidate) →
      sampleFilter debounce sample i =
        if i.count + 1 < debounce + 1 then { i with candidate := sample, count := i.count + 1 }
        else { i with filtered := if sample then .active else .inactive, candidate := sample, count := 0 })
    ∧ (i.count ≠ 0 → sample ≠ i.candidate →
      sampleFilter debounce sample i =
        if debounce = 0 then { i with filtered := if sample then .active else .inactive, candidate := sample, count := 0 }
        else { i with candidate := sample, count := 1 }))
  ∧ (∀ (debounce : Nat) (now sample : Bool) (i : InputState), i.filtered = (if now then .active else .inactive) →
    (sample = now → sampleFilter debounce sample i = { i with count := 0 })
    ∧ (sample ≠ now → sampleFilter debounce sample i =
        if i.count + 1 < debounce + 1 then { i with count := i.count + 1 }
        else { i with filtered := if sample then .active else .inactive, count := 0 }))
  ∧ (∀ (s : State) (p : Nat), p < 16 → (s.input p).filtered = .unsettled → s.filteredActive p = false)
  ∧ ∀ (h : History) (s : State) (p : Nat), p < 16 →
      ((startValues h s).input p).filtered = .unsettled ∧ ((startValues h s).input p).count = 0

/-- An input event in RUNNING at a used input: the five patterns of R70, the declined offers, and the event that finds
nothing to offer. That INPUT_EVENT compares and offers and leaves the filter alone is the model's reading (log entry 12).
-/
def Obligations.InputEventCoalesces : Prop :=
  ∀ (s : State) (p : Nat), s.up = true → s.link.state = .running → p ≤ 15 → (s.inputConfig p).used = true →
    let attrs := (s.inputConfig p).attrs
    let appended (n : Notice) : State :=
      { s with notices := s.notices ++ [{ notice := n, source := .input, age := 0, inFlight := false, cmdMark := false }] }
    let withdrawn : State :=
      ({ s with notices := s.notices.eraseP (fun q => conditionFor p q = some false) }).modifyInput p
        (fun i => { i with chatter := if i.chatter < 255 then i.chatter + 1 else i.chatter })
    let exe := exec (.inputEvent p) s
    (s.noticesFor p = [] → s.filteredActive p = true → (s.input p).announced = false → s.notices.length < 12 →
      exe = .next (appended (.raise p (nextOccurrence (s.ownOccurrence p)) attrs)))
    ∧ (s.noticesFor p = [] → s.filteredActive p = false → (s.input p).announced = true → s.notices.length < 12 →
      exe = .next (appended (.clear p (s.ownOccurrence p) attrs)))
    ∧ (∀ r o a, s.noticesFor p = [r] → r.notice = .raise p o a → s.filteredActive p = false → s.notices.length < 12 →
      exe = .next (appended (.clear p o attrs)))
    ∧ (∀ r c o a o' a', s.noticesFor p = [r, c] → r.notice = .raise p o a → c.notice = .clear p o' a' →
      c.inFlight = false → s.filteredActive p = true → s.notices.length < 12 → exe = .next withdrawn)
    ∧ (∀ c o a, s.noticesFor p = [c] → c.notice = .clear p o a → c.inFlight = false → s.filteredActive p = true →
      (s.input p).announced = true → s.notices.length < 12 → exe = .next withdrawn)
    ∧ (∀ q r o a, s.noticesFor p = q ++ [r] → r.notice = .clear p o a → r.inFlight = true → s.filteredActive p = true →
      exe = .next s)
    ∧ (s.filteredActive p ≠ s.projected p → (s.filteredActive p = true → s.noticesFor p = []) → 12 ≤ s.notices.length →
      exe = .next { s with port := s.port.flagged .qfull })
    ∧ (∀ q c o a, s.noticesFor p = q ++ [c] → c.notice = .clear p o a → c.inFlight = false → s.filteredActive p = true →
      ((q = [] ∧ (s.input p).announced = true) ∨ ∃ r o' a', q = [r] ∧ r.notice = .raise p o' a') →
      12 ≤ s.notices.length → ∃ t, exe = .next t ∧ t.noticesFor p = q
        ∧ (t.input p).chatter = (if (s.input p).chatter < 255 then (s.input p).chatter + 1 else (s.input p).chatter))
    ∧ (s.filteredActive p = s.projected p → exe = .next s)

/-! ## The panel -/

/-- One sample of the four buttons, each filtered by itself: 20 differing samples in a row change what is recognised.
After a start every button is RELEASED with count 0. The flash clock counts 0 to 999 and wraps, starts from 0, and gives
every pattern and the pulsed horn its phase. -/
def Obligations.ButtonFiltersAndFlashClock : Prop :=
  ((∀ (s : State) (ack silence reset test : Bool), s.up = true → exec (.buttonSample ack silence reset test) s = .next
    { s with panel := { s.panel with
        ackButton := sampleButton ack s.panel.ackButton, silenceButton := sampleButton silence s.panel.silenceButton
        resetButton := sampleButton reset s.panel.resetButton, testButton := sampleButton test s.panel.testButton } })
  ∧ (∀ (closed : Bool) (b : ButtonState),
      (closed = b.pressed → sampleButton closed b = { b with count := 0 })
      ∧ (closed ≠ b.pressed → b.count < 19 → sampleButton closed b = { b with count := b.count + 1 })
      ∧ (closed ≠ b.pressed → b.count = 19 → sampleButton closed b = { pressed := closed, count := 0 }))
  ∧ ∀ (h : History) (s : State),
      (startValues h s).panel.ackButton = ⟨false, 0⟩ ∧ (startValues h s).panel.silenceButton = ⟨false, 0⟩
      ∧ (startValues h s).panel.resetButton = ⟨false, 0⟩ ∧ (startValues h s).panel.testButton = ⟨false, 0⟩)
  ∧ (∀ s : State, s.up = true → s.panel.flash ≤ 999 → exec .flashClockTick s = .next
      { s with panel := { s.panel with flash := if s.panel.flash = 999 then 0 else s.panel.flash + 1 } })
  ∧ (∀ (h : History) (s : State), (startValues h s).panel.flash = 0)
  ∧ (∀ (s : State) (p : Pattern), s.up = true → lampOutput s p = p.on s.panel.flash)
  ∧ (∀ s : State, s.up = true → hornSound s = .pulsed → hornOutput s = Pattern.slow.on s.panel.flash)
  ∧ ∀ n, n ≤ 999 →
      Pattern.off.on n = false ∧ Pattern.steady.on n = true
      ∧ (Pattern.fast.on n = true ↔
          n ≤ 124 ∨ (250 ≤ n ∧ n ≤ 374) ∨ (500 ≤ n ∧ n ≤ 624) ∨ (750 ≤ n ∧ n ≤ 874))
      ∧ (Pattern.slow.on n = true ↔ n ≤ 499)
      ∧ (Pattern.double.on n = true ↔ n ≤ 99 ∨ (200 ≤ n ∧ n ≤ 299))

/-- A press of ACK: in RUNNING its notice is appended, or held when the queue is full; with nothing to acknowledge the
held one is discarded; elsewhere it has no effect. A press of RESET makes the local reset action in every link state,
then in RUNNING its notice, as for ACK. -/
def Obligations.PressesFormTheirNotices : Prop :=
  ∀ s : State, s.up = true →
    ((s.link.state ≠ .running → exec .ackPress s = .next s)
      ∧ (s.link.state = .running → s.newest acknowledgeable s.viewMask = none →
          exec .ackPress s = .next { s with panel := { s.panel with heldAck := none } })
      ∧ ∀ l, s.link.state = .running → s.newest acknowledgeable s.viewMask = some l →
          (s.notices.length < 12 → exec .ackPress s = .next
            { s with
                notices := s.notices ++ [{ notice := .ackUpto s.viewMask l, source := .ackButton, age := 0,
                                           inFlight := false, cmdMark := false }]
                panel := { s.panel with heldAck := none } })
          ∧ (12 ≤ s.notices.length → exec .ackPress s = .next
            { s with
                port := s.port.flagged .qfull
                panel := { s.panel with heldAck := some (.ackUpto s.viewMask l) } }))
    ∧ ((s.link.state ≠ .running → exec .resetPress s = .next { s with groups := s.groups.released })
      ∧ (s.link.state = .running → s.newest resettable s.viewMask = none → exec .resetPress s = .next
          { s with groups := s.groups.released, panel := { s.panel with heldReset := none } })
      ∧ ∀ l, s.link.state = .running → s.newest resettable s.viewMask = some l →
          (s.notices.length < 12 → exec .resetPress s = .next
            { s with
                groups := s.groups.released
                notices := s.notices ++ [{ notice := .resetUpto s.viewMask l, source := .resetButton, age := 0,
                                           inFlight := false, cmdMark := false }]
                panel := { s.panel with heldReset := none } })
          ∧ (12 ≤ s.notices.length → exec .resetPress s = .next
            { s with
                groups := s.groups.released
                port := s.port.flagged .qfull
                panel := { s.panel with heldReset := some (.resetUpto s.viewMask l) } }))

/-- A local reset action releases the trip latch, and only while no demand exists: the two requests, the table, the
RESET-UPTO of the link that leaves the latch, and the two orders of a reset and a new cause. -/
def Obligations.LocalResetReleasesTheLatch : Prop :=
  (∀ g : GroupUnit,
      (g.latch = false → g.released = g)
      ∧ (g.latch = true → g.demand = 0 → g.released = { g with latch := false })
      ∧ (g.latch = true → 0 < g.demand → g.released = g))
  ∧ (∀ s : State, s.up = true → ∃ t, exec .resetPress s = .next t ∧ t.groups = s.groups.released)
  ∧ (∀ s : State, s.mailboxIdle = true → s.configured = true →
      ∃ t, exec .rsta s = .next t ∧ t.groups = s.groups.released)
  ∧ (∀ (k : Nat) (stamp limit : Stamp) (mask : ZoneMask) (s : State),
      (applyResetUpto nothingInside k stamp mask limit s).1.groups.latch = s.groups.latch)
  ∧ ∀ s : State, s.groups.demand = 0 →
      (setDemand 1 (localReset s)).groups.latch = true ∧ (localReset (setDemand 1 s)).groups.latch = true

/-- The modal state outside isolation: a press of TEST holds a LAMP TEST, a release ends any LAMP TEST, the duration of a
timed one ends it; a release otherwise has no effect. -/
def Obligations.LampTestStartsAndEnds : Prop :=
  ∀ s : State, s.up = true →
    (s.link.state ≠ .isolated → exec .testPress s = .next { s with port := { s.port with modal := .lampTest none } })
    ∧ (∀ d, s.port.modal = .lampTest d →
        exec .testRelease s = .next { s with port := { s.port with modal := .none } })
    ∧ ((∀ d, s.port.modal ≠ .lampTest d) → exec .testRelease s = .next s)
    ∧ ∀ n, s.port.modal = .lampTest (some n) →
        exec .lampTestExpiry s = .next { s with port := { s.port with modal := .none } }

/-- A rejoin out of ISOLATED, by "RJON", by the rejoin delay or by the start of a LAMP TEST: the REJOIN entry, JOINING,
the JOIN with tables needed, list owed, LINKCHG, and the modal state that the cause gives. -/
def Obligations.RejoinLeavesIsolation : Prop :=
  ∀ s : State, s.up = true → s.link.state = .isolated → s.notices = [] → 1 ≤ s.own → s.own ≤ 24 →
    let joins (i : Instr) (m : Modal) : Prop := ∃ t, exec i s = .next t
      ∧ t.link.state = .joining ∧ t.port.modal = m ∧ t.link.joinSent = none ∧ t.link.quiet = 0
      ∧ t.notices = [{ notice := .join s.link.tablesNeeded, source := .link, age := 0, inFlight := false,
                       cmdMark := false }]
      ∧ (t.entry s.own).listOwed = true ∧ t.hasEvent .linkchg = true ∧ t.points = s.points
      ∧ t.history = s.history.append { stamp := s.link.current, kind := .rejoin, station := s.own }
    joins .testPress (.lampTest none)
    ∧ (∀ n, s.port.modal = .isolated (some n) → joins .rejoinDelayExpiry .none)
    ∧ (s.mailboxIdle = true → joins .rjon .none ∧ ∀ t, exec .rjon s = .next t →
        t.port.result = .done ∧ t.port.running = none ∧ t.hasEvent .cmddone = true)

/-- Windows and zone lamps: the tables of R144 and R53, with the override of LAMP TEST; all are OFF after a start. The
horn sounds while a record calls, pulsed while a SHUTDOWN record does, and the fault lamp follows its table. -/
def Obligations.LampsAndHorn : Prop :=
  ((∀ (s : State) (w : Nat), s.lampTesting = true → windowPattern s w = .steady)
  ∧ (∀ (s : State) (w : Nat), s.lampTesting = false → s.windowMap w = none → windowPattern s w = .off)
  ∧ (∀ (s : State) (w : Nat) (id : PointId), s.lampTesting = false → s.windowMap w = some id →
      windowPattern s w = match (s.record id).state with
        | .normal => .off
        | .alert => if (s.record id).firstOut then .double else .fast
        | .returned => .fast
        | .acked => .steady
        | .ringback => .slow)
  ∧ (∀ (s : State) (z : Nat), s.lampTesting = true → zoneLampPattern s z = .steady)
  ∧ (∀ (h : History) (s : State) (n : Nat),
      windowPattern (startValues h s) n = .off ∧ zoneLampPattern (startValues h s) n = .off)
  ∧ ∀ (s : State) (z : Nat), s.lampTesting = false →
      (0 < (s.zone z).alerting → zoneLampPattern s z = .fast)
      ∧ ((s.zone z).alerting = 0 → 0 < (s.zone z).lost → zoneLampPattern s z = .slow)
      ∧ ((s.zone z).alerting = 0 → (s.zone z).lost = 0 → 0 < (s.zone z).standing → zoneLampPattern s z = .steady)
      ∧ ((s.zone z).alerting = 0 → (s.zone z).lost = 0 → (s.zone z).standing = 0 → zoneLampPattern s z = .off))
  ∧ (∀ s : State, hornSound s ≠ .silent ↔ ∃ id ∈ allPoints,
      inMask s.viewMask (s.zoneOf id.owner) = true
      ∧ ((s.record id).state = .alert ∨ (s.record id).state = .returned)
      ∧ ((s.record id).attrs.cls = .alarm ∨ (s.record id).attrs.cls = .shutdown)
      ∧ Stamp.earlier s.panel.silence ((s.record id).alert.getD stampZero) = true)
  ∧ (∀ s : State, hornSound s = .pulsed ↔ ∃ id ∈ allPoints, s.calls id = true ∧ (s.record id).attrs.cls = .shutdown)
  ∧ (∀ s : State, s.up = true → hornSound s = .pulsed → (hornOutput s = true ↔ s.panel.flash ≤ 499))
  ∧ ∀ s : State,
      (s.lampTesting = true → faultLampPattern s = .steady)
      ∧ (s.lampTesting = false →
          (s.link.state = .conflict ∨ s.link.state = .mismatch ∨ s.link.state = .configFault →
            faultLampPattern s = .fast)
          ∧ (s.link.state = .listening ∨ s.link.state = .joining ∨ s.link.state = .isolated →
            faultLampPattern s = .slow)
          ∧ (s.link.state = .running ∨ s.link.state = .configuring →
            (((∃ k, 1 ≤ k ∧ k ≤ 24 ∧ (s.entry k).liveness = .lost) ∨ 0 < s.list.unlistedCount) →
              faultLampPattern s = .steady)
            ∧ (¬ ((∃ k, 1 ≤ k ∧ k ≤ 24 ∧ (s.entry k).liveness = .lost) ∨ 0 < s.list.unlistedCount) →
              faultLampPattern s = .off)))

/-! ## The link: frames received -/

/-- A frame start with nothing in reception restarts the quiet timer and stops the mark timer, the silence timer and the
slot-end interval; a further character is no frame start. A frame that ends invalid, by its bytes or by gap, is counted
with FRAMEERR, nothing of it is used, and it counts for timing; so is a frame begun outside a slot that 2,720 bt do not
see ended (log entry 8); the mixed frame after a collision of the own MARK leaves the mark phase as it is. -/
def Obligations.FrameStartsAndInvalidFrames : Prop :=
  (∀ s : State, s.up = true → s.configured = true →
    (s.link.reception = .idle → exec .frameStart s = .next
      { s with link := { s.link with reception := .frame, quiet := 0, markTimer := .stopped, silenceTimer := .stopped,
                                     slotEndTimer := .stopped } })
    ∧ (s.link.reception ≠ .idle → exec .frameStart s = .next s))
  ∧ ∀ s : State, s.up = true → s.configured = true → s.link.sending = none → s.link.reception ≠ .idle →
    ∀ i, (i = Instr.invalidFrame ∨ i = .frameEndByGap ∨ (i = .slotLengthLimit ∧ ∀ k, s.link.position ≠ .slot k)) →
      ∃ t, exec i s = .next t
      ∧ t.link.frameErrors = (if s.link.frameErrors < 255 then s.link.frameErrors + 1 else s.link.frameErrors)
      ∧ t.port = s.port.flagged .frameerr ∧ t.link.reception = .idle
      ∧ t.points = s.points ∧ t.notices = s.notices ∧ t.directory = s.directory ∧ t.agreement = s.agreement
      ∧ t.link.state = s.link.state ∧ t.link.cycle = s.link.cycle ∧ t.link.current = s.link.current
      ∧ (∀ k, s.link.position = .slot k → s.link.reception = .frame →
          t.link.position = .slot k ∧ t.link.slotEndTimer = .runningToward 24 ∧ t.link.confirmed = s.link.confirmed)
      ∧ (s.link.position = .markPhase → s.link.reception = .frame →
          t.link.position = .slot 1 ∧ t.link.confirmed = false ∧ t.link.silenceTimer = .runningToward 96
          ∧ t.link.lengthTimer = .runningToward 2720)
      ∧ (s.link.reception = .mixed →
          t.link.position = s.link.position ∧ t.link.confirmed = s.link.confirmed ∧ t.link.markTimer = s.link.markTimer)

/-- Which bytes are a valid frame for a station with slot count S: kind, length, check and sender. The check of the
string 123456789 is 29B1h, and the register run over any body closed with its check ends at 0. -/
def Obligations.FrameValidityAndCheck : Prop :=
  (∀ (slots : Nat) (bs : List Byte), judge slots bs ≠ .invalid ↔
    (let b (i : Nat) : Nat := (byteAt bs i).toNat
     ((b 0 = 0x51 ∧ bs.length = 10)
        ∨ (b 0 = 0x52 ∧ b 8 ≤ 6 ∧ bs.length = 14 + 10 * b 8)
        ∨ (b 0 = 0x53 ∧ bs.length = 182))
      ∧ b (bs.length - 2) * 256 + b (bs.length - 1) = (frameCheck (bs.take (bs.length - 2))).toNat
      ∧ 1 ≤ b 1 ∧ b 1 ≤ slots))
  ∧ frameCheck [0x31, 0x32, 0x33, 0x34, 0x35, 0x36, 0x37, 0x38, 0x39] = 0x29B1#16
  ∧ ∀ body : List Byte, frameCheck (withCheck body) = 0

/-- A peer's MARK with the configured S and a greater cycle number, in a link state that applies frames: its number is
current and confirmed, slot 1 begins, the current stamp is c.0.0, no record changes. -/
def Obligations.MarkIsApplied : Prop :=
  ∀ (s : State) (bytes : List Byte) (f : MarkFrame) (c : Nat), s.up = true → s.link.state.appliesFrames = true →
    s.link.sending = none → judge s.slots bytes = .mark f → f.sender ≠ s.own → f.sender ≤ 24 → f.slots = s.slots →
    s.link.position ≠ .unsynchronised → s.link.cycle = some c → c < f.cycle → s.agreement.deferred = none →
    ∃ t, exec (.markReceived bytes) s = .next t
      ∧ t.link.cycle = some f.cycle ∧ t.link.confirmed = true ∧ t.link.position = .slot 1
      ∧ t.link.current = ⟨f.cycle, 0, 0⟩ ∧ t.link.markCollisions = 0 ∧ t.link.reception = .idle
      ∧ (t.entry f.sender).lastCycle = some f.cycle ∧ t.points = s.points
      ∧ t.link.slips = (if s.link.position = .markPhase then s.link.slips
          else if s.link.slips < 255 then s.link.slips + 1 else s.link.slips)

/-- A discontinuity: a peer's MARK whose cycle number is not greater, or a peer's SLOT frame whose number is lower,
rebuilds the tables before it is handled. The records are treated, with a REBUILD entry, the queue is flushed, with a QUEUE
FLUSH entry behind it that counts the notices, a command whose notice it held completes ABORTED, tables needed is set, a
station that sends enters JOINING anew, and the carried number is current. -/
def Obligations.DiscontinuityRebuildsTheTables : Prop :=
  ∀ (s : State) (bytes : List Byte) (c : Nat), s.up = true → s.link.state.appliesFrames = true → s.link.sending = none →
    s.link.position ≠ .unsynchronised → s.link.cycle = some c → s.agreement.deferred = none → 1 ≤ s.own → s.own ≤ 24 →
    let rebuilds (t : State) (now : Nat) : Prop := s.Treated now t ∧ t.link.cycle = some now
      ∧ t.link.confirmed = true ∧ t.link.tablesNeeded = true ∧ t.link.ownInitialised = s.link.ownInitialised
      ∧ t.panel.heldAck = none ∧ t.panel.heldReset = none
      ∧ (s.link.state.sends = true → t.link.state = .joining ∧ t.link.joinSent = none
          ∧ t.notices.map (·.notice) = [.join true] ∧ (t.entry s.own).listOwed = true)
      ∧ (s.link.state.sends = false → t.link.state = s.link.state)
      ∧ ((∃ q ∈ s.notices, q.cmdMark = true) → t.port.running = none ∧ t.port.result = .aborted)
      ∧ (let rebuilt := s.history.append { stamp := ⟨now, 0, 0⟩, kind := .rebuild, station := s.own }
         t.history = if s.notices = [] then rebuilt else rebuilt.append
          { stamp := ⟨now, 0, 0⟩, kind := .queueFlush, station := s.own, count := some s.notices.length })
    (∀ f : MarkFrame, judge s.slots bytes = .mark f → f.sender ≠ s.own → f.sender ≤ 24 → f.slots = s.slots →
      f.cycle ≤ c → ∃ t, exec (.markReceived bytes) s = .next t ∧ rebuilds t f.cycle
        ∧ t.link.current = ⟨f.cycle, 0, 0⟩ ∧ t.link.position = .slot 1)
    ∧ ∀ f : SlotFrame, judge s.slots bytes = .slot f → f.sender ≠ s.own → f.sender ≤ 24 → f.cycle < c →
        f.notices = [] → (s.entry f.sender).liveness ≠ .lost →
        ∃ t, exec (.slotFrameReceived bytes) s = .next t ∧ rebuilds t f.cycle
          ∧ t.link.current = ⟨f.cycle, f.sender, 47⟩ ∧ t.link.position = .slot f.sender

/-- Aging at a MARK: every queued notice grows older by one; those that reach 8 are discarded with one QUEUE AGED entry
that counts them. What the discarded notice's source does: a command completes ABORTED, a pending request is dropped, a
JOIN is appended anew, the Scanner offers again for an input that still has a change, and a panel notice is gone. -/
def Obligations.NoticesAgeAtAMark : Prop :=
  ∀ (c : Nat) (s : State),
    let t := ageQueue c s
    let stay := (s.notices.filter (fun q => q.age < 7)).map (fun q => { q with age := q.age + 1 })
    let queued (n : Notice) (source : Source) : QueuedNotice :=
      { notice := n, source := source, age := 0, inFlight := false, cmdMark := false }
    ((∀ q ∈ s.notices, q.age < 7) → t = { s with notices := s.notices.map (fun q => { q with age := q.age + 1 }) })
    ∧ ((∃ q ∈ s.notices, 7 ≤ q.age) → t.history = s.history.append
        { stamp := ⟨c, 0, 0⟩, kind := .queueAged, station := s.own
          count := some (s.notices.countP (fun q => 7 ≤ q.age)) })
    ∧ ((∃ q ∈ s.notices, 7 ≤ q.age ∧ q.cmdMark = true) → t.port.running = none ∧ t.port.result = .aborted
        ∧ t.hasEvent .cmddone = true)
    ∧ (∀ q ∈ s.notices, 7 ≤ q.age → ∀ k, q.notice = .resyncRequest k → (t.entry k).resync = none)
    ∧ (s.notices.length < 12 → (∀ q ∈ s.notices, 7 ≤ q.age → inputPoints [q] = []) →
        t.notices = stay ++ (s.notices.filter (fun q => 7 ≤ q.age)).filterMap (fun q => match q.notice with
          | .join need => some (queued (.join need) .link)
          | _ => none))
    ∧ ∀ p q, s.noticesFor p = [q] → 7 ≤ q.age → (∀ x ∈ s.notices, 7 ≤ x.age → x = q) → s.notices.length < 12 →
        s.link.state = .running → (s.inputConfig p).used = true →
        (s.filteredActive p = true → (s.input p).announced = false → t.notices = stay ++
          [queued (.raise p (nextOccurrence (s.ownOccurrence p)) (s.inputConfig p).attrs) .input])
        ∧ (s.filteredActive p = false → (s.input p).announced = true → t.notices = stay ++
          [queued (.clear p (s.ownOccurrence p) (s.inputConfig p).attrs) .input])
        ∧ (s.filteredActive p = (s.input p).announced → t.notices = stay)

/-- What else a MARK of cycle c ages, the parties in some order and none of them in MISMATCH. A pending request whose age
reaches 3 lapses: it is dropped and counted, with LAPSE and RESYNC. A join wait that reaches 3 starts anew, with LAPSE,
and the owner's list is requested. A joining station whose JOIN is sent enters RUNNING when its wait set is empty, or at
once when it needed no tables. -/
def Obligations.LapsesAndEntryToRunning : Prop :=
  (∀ (c : Nat) (s : State),
    (s.link.state = .mismatch → markParties c s = s)
    ∧ (s.link.state ≠ .mismatch → ∃ ops n, ops.Perm (markTasks c) ∧ markParties c s = inTurn ops { s with choices := n }))
  ∧ (∀ (c k : Nat) (s : State), 1 ≤ k → k ≤ 24 →
    ((s.entry k).resync = none → agePending c k s = s)
    ∧ (∀ a, (s.entry k).resync = some a → a < 2 →
        agePending c k s = s.modifyEntry k (fun e => { e with resync := some (a + 1) }))
    ∧ (∀ a, (s.entry k).resync = some a → 2 ≤ a →
        let t := agePending c k s
        let lapses := if s.agreement.lapses < 255 then s.agreement.lapses + 1 else s.agreement.lapses
        t.entry k = { s.entry k with resync := none } ∧ t.agreement = { s.agreement with lapses := lapses }
        ∧ t.hasEvent .resync = true ∧ t.notices = s.notices ∧ t.points = s.points ∧ t.link = s.link
        ∧ t.history = s.history.append
            { stamp := ⟨c, 0, 0⟩, kind := .lapse, station := k, count := some lapses }))
  ∧ (∀ (c k : Nat) (s : State), 1 ≤ k → k ≤ 24 →
    (s.link.state ≠ .joining ∨ (s.entry k).joinWait = none → ageJoinWait c k s = s)
    ∧ (s.link.state = .joining → ∀ w, (s.entry k).joinWait = some w →
        (w < 2 → ageJoinWait c k s = s.modifyEntry k (fun e => { e with joinWait := some (w + 1) }))
        ∧ (2 ≤ w → ageJoinWait c k s = requestResync k (recordHistory
            { stamp := ⟨c, 0, 0⟩, kind := .lapse, station := k }
            (s.modifyEntry k (fun e => { e with joinWait := some 0 }))))))
  ∧ ∀ (s : State) (bytes : List Byte) (f : MarkFrame) (c : Nat), s.up = true → s.link.state = .joining →
    s.link.sending = none → judge s.slots bytes = .mark f → f.sender ≠ s.own → f.slots = s.slots →
    s.link.position ≠ .unsynchronised → s.link.cycle = some c → c < f.cycle → s.agreement.deferred = none →
    (s.link.joinSent = none ∨ (s.link.joinSent = some true ∧ ∃ k, 1 ≤ k ∧ k ≤ 24 ∧ (s.entry k).joinWait ≠ none) →
      ∃ t, exec (.markReceived bytes) s = .next t ∧ t.link.state = .joining ∧ t.link.joinSent = s.link.joinSent)
    ∧ ∀ need, s.link.joinSent = some need → (need = true → ∀ k, (s.entry k).joinWait = none) →
      ∃ t, exec (.markReceived bytes) s = .next t ∧ t.link.state = .running ∧ t.hasEvent .linkchg = true
        ∧ t.link.joinSent = none ∧ t.link.tablesNeeded = (if need then false else s.link.tablesNeeded)
        ∧ ∀ k, 1 ≤ k → k ≤ 24 → (t.entry k).joinWait = none

/-- A peer's SLOT frame that is not out of order, its cycle number not below the current one: it presets the slot, its
number is current and confirmed, the directory takes its header, and the current stamp ends at c.k.47. A frame that is out
of order is counted as a slip and applied by nobody. An action that falls inside the application does what its row does, in
the state that the parts complete by then have left (R40, R44, R148; where it falls is an operand, log entry 36): a silence
action takes the stamp of the last notice applied, a load in the middle of a walk sees the walk so far, CLRH empties the
log of the entries made by then (R161), and a write of EVENTS clears the flags set by then (R167). -/
def Obligations.SlotFrameIsApplied : Prop :=
  (∀ (s : State) (bytes : List Byte) (inside : List Inside) (f : SlotFrame) (c : Nat),
    s.up = true → s.link.state.appliesFrames = true →
    s.link.sending = none → judge s.slots bytes = .slot f → f.sender ≠ s.own → f.sender ≤ 24 →
    s.link.position ≠ .unsynchronised → s.link.cycle = some c →
    (c ≤ f.cycle → (f.cycle = c → Stamp.earlier s.link.current ⟨c, f.sender, 1⟩ = true) →
      ∃ t, exec (.slotFrameReceived bytes inside) s = .next t
        ∧ t.link.cycle = some f.cycle ∧ t.link.confirmed = true ∧ t.link.position = .slot f.sender
        ∧ t.link.current = ⟨f.cycle, f.sender, 47⟩ ∧ t.link.slotEndTimer = .runningToward 24
        ∧ t.link.state = s.link.state
        ∧ (t.entry f.sender).liveness = .live ∧ (t.entry f.sender).lastCycle = some f.cycle
        ∧ (t.entry f.sender).digest = some f.digest
        ∧ (1 ≤ f.zone → f.zone ≤ 8 → (t.entry f.sender).zone = some f.zone)
        ∧ (f.zone = 0 ∨ 8 < f.zone → (t.entry f.sender).zone = (s.entry f.sender).zone)
        ∧ (inside = [] → t.panel = s.panel)
        ∧ (s.agreement.rebuildCycle = none →
            (inside = [⟨.silencePress, ⟨1, 0⟩⟩] → t.panel.silence = s.link.current)
            ∧ ∀ i n, inside = [⟨.silencePress, ⟨i + 2, 0⟩⟩] → f.notices[i]? = some (some n) →
                t.panel.silence = ⟨f.cycle, f.sender, i + 1⟩))
    ∧ (f.cycle = c → Stamp.earlier s.link.current ⟨c, f.sender, 1⟩ = false → s.agreement.deferred = none →
      ∃ t, exec (.slotFrameReceived bytes inside) s = .next t
        ∧ t.link.slips = (if s.link.slips < 255 then s.link.slips + 1 else s.link.slips)
        ∧ t.points = s.points ∧ t.directory = s.directory ∧ t.port = s.port
        ∧ ∀ k, s.link.position = .slot k → t.link.position = .slot k))
  ∧ (∀ (s : State) (bytes : List Byte) (f : SlotFrame) (c : Nat),
    s.up = true → s.link.state.appliesFrames = true → s.link.sending = none → judge s.slots bytes = .slot f →
    f.sender ≠ s.own → s.link.position ≠ .unsynchronised → s.link.cycle = some c → c ≤ f.cycle →
    (f.cycle = c → Stamp.earlier s.link.current ⟨c, f.sender, 1⟩ = true) → s.agreement.deferred = none →
    ∃ u, u = { s with link := u.link } ∧ u.link.state = s.link.state ∧ u.link.current = s.link.current
      ∧ ∀ inside, exec (.slotFrameReceived bytes inside) s =
          .next (applySlot f false (fallInside inside) (f.notices.map (fun n => (n, false))) u))
  ∧ (∀ (k c : Nat) (own : Bool) (a : InsideAction) (xs ys : List (Option Notice × Bool)) (s : State), xs ≠ [] →
    applyNotices k c own (fallInside [⟨a, ⟨xs.length + 1, 0⟩⟩]) 1 (xs ++ ys) s =
      applyNotices k c own nothingInside (xs.length + 1) ys
        (actInside a (applyNotices k c own nothingInside 1 xs s)))
  ∧ (∀ (n : Nat) (event : RecordEvent) (stamp : Stamp) (actor : Option Nat)
      (change : PointRecord → PointRecord × ReportOutcome) (a : InsideAction) (ids rest : List PointId) (s : State),
    ids ≠ [] →
    let walk (d : During) (from_ : Nat) (ids : List PointId) (s : State) : State :=
      (recordEvents d n event stamp actor change from_ ids s).1
    walk (fallInside [⟨a, ⟨n, ids.length⟩⟩]) 0 (ids ++ rest) s =
      walk nothingInside ids.length rest (actInside a (walk nothingInside 0 ids s)))
  ∧ ∀ s : State, s.up = true →
      exec .silencePress s = .next (actInside .silencePress s) ∧ exec .ackPress s = .next (actInside .ackPress s)
      ∧ exec .resetPress s = .next (actInside .resetPress s) ∧ exec .siln s = .next (actInside .siln s)
      ∧ exec .acka s = .next (actInside .acka s) ∧ exec .rsta s = .next (actInside .rsta s)
      ∧ exec .recordLoad s = .next (actInside .recordLoad s) ∧ exec .clrh s = .next (actInside .clrh s)
      ∧ ∀ offset value, exec (.eventsWrite offset value) s = .next (actInside (.eventsWrite offset value) s)

/-- The digest comparison of a SLOT frame: made at once, or deferred to the list that follows and made at the latest when
the slot ends. A match clears the stale flag and the owner-lost flags of an owner that is not LOST; a mismatch sets
RESYNC and acts by the link state. A request is offered for a LIVE owner with none pending. -/
def Obligations.DigestComparisonAndRequests : Prop :=
  (∀ (f : SlotFrame) (own : Bool) (s : State),
    (own = true ∨ (f.sender = s.own ∧ s.link.state.barred = false) → takeDigest f own s = s)
    ∧ (own = false → f.sender ≠ s.own ∨ s.link.state.barred = true →
      (f.listFollows = true → takeDigest f own s =
        { s with agreement := { s.agreement with deferred := some (f.sender, f.digest) } })
      ∧ (f.listFollows = false → takeDigest f own s = compareDigest f.sender f.digest s)))
  ∧ (∀ (k : Nat) (d : Check) (s : State), 1 ≤ k → k ≤ 24 →
    let t := compareDigest k d s
    let noted := setEvent .resync s
    let stale := noted.modifyEntry k (fun e => { e with stale := true })
    (s.digest k = d → t.entry k = { s.entry k with stale := false } ∧ t.port = s.port ∧ t.history = s.history
      ∧ t.notices = s.notices ∧ t.link = s.link
      ∧ ∀ p, p ≤ 15 → t.record ⟨k, p⟩ = { s.record ⟨k, p⟩ with
          ownerLost := if (s.entry k).liveness = .lost then (s.record ⟨k, p⟩).ownerLost else false })
    ∧ (s.digest k ≠ d →
      (s.link.state = .running → t = requestResync k noted)
      ∧ (s.link.state = .joining → t = if (s.entry k).joinWait.isSome then noted else stale)
      ∧ (s.link.state = .isolated → t = stale)
      ∧ (s.link.state = .conflict ∨ s.link.state = .mismatch → t = noted)))
  ∧ (∀ (k : Nat) (s : State),
    ((s.entry k).liveness ≠ .live ∨ (s.entry k).resync ≠ none → requestResync k s = s)
    ∧ ((s.entry k).liveness = .live → (s.entry k).resync = none → s.link.state.sends = true →
      (s.notices.length < 12 → requestResync k s =
        State.modifyEntry { s with notices := s.notices ++ [{ notice := .resyncRequest k, source := .agreement, age := 0,
                                                              inFlight := false, cmdMark := false }] } k
          (fun e => { e with resync := some 0 }))
      ∧ (12 ≤ s.notices.length → requestResync k s = { s with port := s.port.flagged .qfull })))
  ∧ (∀ s : State, s.agreement.deferred = none → makeDeferred s = s)
  ∧ (∀ (s : State) (k : Nat) (d : Check), s.agreement.deferred = some (k, d) →
      makeDeferred s = compareDigest k d { s with agreement := { s.agreement with deferred := none } })
  ∧ ∀ (s : State) (j k : Nat) (d : Check), s.up = true → s.link.position = .slot j → s.link.slotEndTimer ≠ .stopped →
      s.agreement.deferred = some (k, d) → ∃ t, exec .slotEnd s = .next t ∧ t.agreement.deferred = none
        ∧ (s.digest k ≠ d → t.hasEvent .resync = true)

/-- JOIN and RESYNC-REQUEST notices by the link state of the station that applies them, and the requests for stale owners
that a station makes at its entry to RUNNING. -/
def Obligations.JoinAndResyncNotices : Prop :=
  (∀ (k : Nat) (stamp : Stamp) (need : Bool) (s : State),
    let other := (applyNotice k false stamp (.join need) s).1
    let own := (applyNotice k true stamp (.join need) s).1
    let owed := s.modifyEntry s.own (fun e => { e with listOwed := true })
    (s.link.state = .running → other = (if need then owed else s) ∧ own = other)
    ∧ (s.link.state = .joining → other = (if need then owed else s))
    ∧ (s.link.state ≠ .running → s.link.state ≠ .joining → other = s ∧ own = s)
    ∧ (s.link.state = .joining → need = false → own = { s with link := { s.link with joinSent := some false } })
    ∧ (s.link.state = .joining → need = true → 1 ≤ s.own → s.own ≤ 24 →
        own = { s with link := { s.link with joinSent := some true }, directory := own.directory }
        ∧ own.entry s.own = { s.entry s.own with listOwed := true }
        ∧ ∀ j, 1 ≤ j → j ≤ 24 → j ≠ s.own → own.entry j = { s.entry j with
            joinWait := if (s.entry j).liveness = .live then some 0 else (s.entry j).joinWait }))
  ∧ (∀ (k target : Nat) (ownFrame : Bool) (stamp : Stamp) (s : State),
    let t := (applyNotice k ownFrame stamp (.resyncRequest target) s).1
    (target = s.own → ownFrame = false → s.link.state.sends = true →
      t = s.modifyEntry s.own (fun e => { e with listOwed := true }))
    ∧ (target = s.own → ownFrame = false → s.link.state.sends = false → t = s)
    ∧ (target ≠ s.own → ownFrame = true → t =
        if (s.entry target).resync.isSome then s.modifyEntry target (fun e => { e with resync := some 0 }) else s)
    ∧ (target ≠ s.own → ownFrame = false → t = s))
  ∧ ∀ s : State, s.link.state = .running →
    let t := requestStale s
    let asked := addresses.filter
      (fun k => (s.entry k).stale && (s.entry k).liveness = .live && (s.entry k).resync.isNone)
    (∀ k, 1 ≤ k → k ≤ 24 → (t.entry k).stale = false)
    ∧ (s.notices.length + asked.length ≤ 12 →
        t.notices = s.notices ++ asked.map (fun k => (
          { notice := .resyncRequest k, source := .agreement, age := 0, inFlight := false, cmdMark := false } :
            QueuedNotice))
        ∧ ∀ k ∈ asked, (t.entry k).resync = some 0)

/-- Zones and the return of a lost station. A zone that entry k takes moves its 17 records and its LOST entry between the
summaries and its trip causes in the demand count. A SLOT frame of a LOST entry makes it LIVE: its link-lost point is
cleared under c.k.0, JOINED is recorded and STAJOIN set, and the lost count of its zone falls. -/
def Obligations.ZonesAndReturnFromLost : Prop :=
  (∀ (s : State) (k z : Nat), 1 ≤ k → k ≤ 24 → 1 ≤ z → z ≤ 8 →
    let t := takeZone k z s
    (s.zoneOf k = some z → t = s)
    ∧ (s.zoneOf k ≠ some z → (∀ y, s.zoneOf k = some y → 1 ≤ y ∧ y ≤ 8) →
      t = { s with directory := t.directory, groups := t.groups } ∧ t.entry k = { s.entry k with zone := some z }
      ∧ (∀ y, 1 ≤ y → y ≤ 8 → t.zone y =
          if y = z then ⟨(s.zone y).alerting + countStates s k isAlerting,
            (s.zone y).standing + countStates s k isStanding, (s.zone y).lost + lostCount s k⟩
          else if s.zoneOf k = some y then ⟨(s.zone y).alerting - countStates s k isAlerting,
            (s.zone y).standing - countStates s k isStanding, (s.zone y).lost - lostCount s k⟩
          else s.zone y)
      ∧ (s.groups.demand = s.causes.length → t.groups.demand = t.causes.length)))
  ∧ ∀ (s : State) (bytes : List Byte) (f : SlotFrame) (c : Nat), s.up = true → s.link.state.appliesFrames = true →
    s.link.sending = none → judge s.slots bytes = .slot f → f.sender ≠ s.own → 1 ≤ f.sender → f.sender ≤ 24 →
    s.link.position ≠ .unsynchronised → s.link.cycle = some c → c < f.cycle → s.agreement.deferred = none →
    f.notices = [] → (s.entry f.sender).liveness = .lost →
    let old := s.record ⟨f.sender, 16⟩
    ∃ t, exec (.slotFrameReceived bytes) s = .next t
      ∧ (t.entry f.sender).liveness = .live ∧ t.hasEvent .stajoin = true
      ∧ (t.record ⟨f.sender, 16⟩).active = false ∧ (t.record ⟨f.sender, 16⟩).occurrence = old.occurrence
      ∧ (old.active = true →
          (old.state = .alert → (t.record ⟨f.sender, 16⟩).state = .returned
            ∧ (t.record ⟨f.sender, 16⟩).alert = old.alert)
          ∧ (old.state = .acked → old.attrs.seq = .manualReset → (t.record ⟨f.sender, 16⟩).state = .ringback))
      ∧ t.history = s.history.append
          { stamp := ⟨f.cycle, f.sender, 0⟩, kind := .joined, station := f.sender, point := some 16
            occurrence := some old.occurrence }
      ∧ (∀ z, 1 ≤ z → z ≤ 8 → s.zoneOf f.sender = some z → f.zone = z →
          (t.zone z).lost = (s.zone z).lost - 1)
      ∧ ((s.digest f.sender ≠ f.digest ∨ f.listFollows = true) → ∀ p, p ≤ 15 →
          (t.record ⟨f.sender, p⟩).ownerLost = (s.record ⟨f.sender, p⟩).ownerLost)

/-- A peer's OWNED LIST whose sixteen entries pass the checks: each record of the sender takes its entry, made to obey R6
and R8, its first-out flag by the claim it makes on its group; the request, the stale flag and a deferred comparison are
answered, the sender leaves the wait set, a RESYNC entry counts the records that changed visibly, RESYNC is set; owner-lost
clears unless the sender is LOST. A list that fails the checks is skipped and counted as a frame error. An action that
falls inside the replacements acts on the records replaced by then (where it falls is an operand, log entry 36). -/
def Obligations.OwnedListReplacesRecords : Prop :=
  (∀ (s : State) (bytes : List Byte) (inside : List Inside) (f : ListFrame), s.up = true →
    s.link.state.appliesFrames = true → s.link.sending = none → judge s.slots bytes = .list f → f.sender ≠ s.own →
    f.sender ≤ 24 → s.link.position ≠ .unsynchronised →
    (listEntries f = none → ∃ t, exec (.ownedListReceived bytes inside) s = .next t
      ∧ t.link.frameErrors = (if s.link.frameErrors < 255 then s.link.frameErrors + 1 else s.link.frameErrors)
      ∧ t.port = s.port.flagged .frameerr ∧ t.points = s.points ∧ t.list = s.list ∧ t.groups = s.groups
      ∧ t.directory = s.directory ∧ t.agreement = s.agreement ∧ t.history = s.history ∧ t.panel = s.panel)
    ∧ ∀ es, listEntries f = some es → ∃ t, exec (.ownedListReceived bytes inside) s = .next t
      ∧ (∀ e ∈ es,
          let id : PointId := ⟨f.sender, e.point⟩
          let r := t.record id
          let old := s.record id
          let g := e.attrs.group
          let rests := e.state = .normal ∨ e.shelved = true ∨ e.attrs.cls = .advisory ∨ e.occurrence = 0
            ∨ e.alert = ⟨0, 0, 0⟩
          r.attrs = e.attrs ∧ r.active = e.active ∧ r.shelved = e.shelved ∧ r.occurrence = e.occurrence
          ∧ (rests → r.state = .normal ∧ r.alert = none) ∧ (¬ rests → r.state = e.state ∧ r.alert = some e.alert)
          ∧ r.lastActor = (if e.occurrence = old.occurrence then old.lastActor else none)
          ∧ ((s.entry f.sender).liveness ≠ .lost → r.ownerLost = false)
          ∧ (e.firstOut = false ∨ rests ∨ g = 0 → r.firstOut = false)
          ∧ (e.firstOut = true → ¬ rests → 1 ≤ g → g ≤ 8 → s.holder g = none ∨ s.holder g = some id →
              (∀ x ∈ es, x.point ≠ e.point → x.attrs.group ≠ g ∨ x.firstOut = false) →
              r.firstOut = true ∧ t.holder g = some id))
      ∧ (∀ d, s.agreement.deferred = some (f.sender, d) → t.agreement.deferred = none)
      ∧ (t.entry f.sender).resync = none ∧ (t.entry f.sender).stale = false ∧ t.hasEvent .resync = true
      ∧ (t.entry f.sender).joinWait = (if s.link.state = .joining then none else (s.entry f.sender).joinWait)
      ∧ (let stamp : Stamp := match s.link.position, s.link.cycle with
          | .slot k, some c => if s.link.confirmed then ⟨c, k, 47⟩ else s.link.current
          | _, _ => s.link.current
         let changed (e : ListEntry) : Bool :=
          visiblyChanged (s.record ⟨f.sender, e.point⟩) (t.record ⟨f.sender, e.point⟩)
         t.link.current = stamp
          ∧ t.history.entries.getLast? = some
            { stamp := stamp, kind := .resync, station := f.sender, count := some (es.countP changed) }))
  ∧ ∀ (k : Nat) (stamp : Stamp) (a : InsideAction) (xs ys : List ListEntry) (s : State), xs ≠ [] →
    (applyReplacements (fallInside [⟨a, ⟨xs.length, 0⟩⟩]) k stamp 0 (xs ++ ys) s).1 =
      (applyReplacements nothingInside k stamp xs.length ys
        (actInside a (applyReplacements nothingInside k stamp 0 xs s).1)).1

/-- A valid frame that carries the station's own address and is not its own brings CONFLICT, before the frame is handled; a
MARK with a foreign S brings MISMATCH. On entry the queue is flushed, list owed and the join waits are cleared, a modal
isolation ends, and the CONFLICT or MISMATCH entry and the QUEUE FLUSH entry, which counts the notices, are made in either
order under the current stamp; a comparison still deferred is made before that, but not for an OWNED LIST. That CONFLICT comes first for a MARK with both is log entry 17; that each of the three rows takes the
bytes of any kind of frame is log entry 7. -/
def Obligations.ConflictAndMismatch : Prop :=
  ∀ (s : State) (bytes : List Byte) (inside : List Inside),
    s.up = true → s.link.state.mayBeBarred = true → s.link.sending = none →
    let entered (new : LinkState) (kind : HistoryKind) (before t : State) : Prop :=
      let passage : HistoryEntry := { stamp := s.link.current, kind := kind, station := s.own }
      let flushed : HistoryEntry :=
        { stamp := s.link.current, kind := .queueFlush, station := s.own, count := some before.notices.length }
      t.link.state = new ∧ t.hasEvent .linkchg = true ∧ t.link.markTimer = .stopped ∧ t.notices = []
      ∧ t.panel.heldAck = none ∧ t.panel.heldReset = none ∧ (t.entry s.own).listOwed = false
      ∧ (∀ k, (t.entry k).joinWait = none) ∧ t.points = s.points ∧ t.link.current = s.link.current
      ∧ t.port.modal = (if s.port.modal.isIsolated then .none else s.port.modal)
      ∧ (before.notices = [] → t.history = s.history.append passage)
      ∧ (before.notices ≠ [] → t.history = (s.history.append passage).append flushed
          ∨ t.history = (s.history.append flushed).append passage)
    (judge s.slots bytes ≠ .invalid → (byteAt bytes 1).toNat = s.own →
      ∀ i ∈ [Instr.markReceived bytes, .slotFrameReceived bytes inside, .ownedListReceived bytes inside],
        (∃ t, exec i s = .next t ∧ t.link.state = .conflict
          ∧ ((∀ x ∈ inside, ∀ o v, x.action ≠ .eventsWrite o v) → t.hasEvent .linkchg = true))
        ∧ ∃ u, exec i s = exec i u
            ∧ entered .conflict .conflict (if byteAt bytes 0 = 0x53 then s else makeDeferred s) u)
    ∧ ∀ f, judge s.slots bytes = .mark f → f.sender ≠ s.own → f.slots ≠ s.slots →
        ∃ t, exec (.markReceived bytes) s = .next t ∧ entered .mismatch .mismatch (makeDeferred s) t

/-- In LISTENING the first valid MARK is only noted; the second brings JOINING, with a JOIN queued, and is applied. -/
def Obligations.SecondMarkBringsJoining : Prop :=
  ∀ (s : State) (bytes : List Byte) (f : MarkFrame), s.up = true → s.link.state = .listening → s.link.sending = none →
    judge s.slots bytes = .mark f → f.sender ≠ s.own → f.slots = s.slots → s.agreement.deferred = none →
    (s.link.markSeen = false → ∃ t, exec (.markReceived bytes) s = .next t
      ∧ t.link.state = .listening ∧ t.link.markSeen = true ∧ t.link.cycle = some f.cycle ∧ t.link.position = .slot 1
      ∧ t.link.confirmed = true ∧ t.link.current = s.link.current ∧ t.points = s.points ∧ t.directory = s.directory
      ∧ t.notices = s.notices)
    ∧ (s.link.markSeen = true → (s.link.current = ⟨0, 0, 0⟩ ∨ s.link.current.cycle < f.cycle) → s.notices = [] →
        1 ≤ s.own → s.own ≤ 24 → ∃ t, exec (.markReceived bytes) s = .next t
      ∧ t.link.state = .joining ∧ t.link.cycle = some f.cycle ∧ t.link.position = .slot 1
      ∧ t.link.current = ⟨f.cycle, 0, 0⟩ ∧ t.notices.map (·.notice) = [.join s.link.tablesNeeded]
      ∧ (t.entry s.own).listOwed = true ∧ t.hasEvent .linkchg = true)

/-- A collision abandons the frame being sent and is counted. The first in an own slot raises the own-slot collision count
to 1, gives the notices back and the trial digest up, and no OWNED LIST follows; the first of a MARK starts the mark timer
anew. The second in a row, of the own slot or of the MARK, brings CONFLICT. That a frame stays in reception, also when no
start bit was seen, is the model's choice (log entry 39). -/
def Obligations.CollisionAbandonsTheFrame : Prop :=
  ∀ s : State, s.up = true → s.link.sending.isSome = true →
    (∃ t, exec .collision s = .next t ∧ t.link.sending = none
      ∧ t.link.collisions = (if s.link.collisions < 255 then s.link.collisions + 1 else s.link.collisions)
      ∧ ∀ q ∈ t.notices, (∀ f, s.link.sending ≠ some (.mark f)) → q.inFlight = false)
    ∧ (∀ f, s.link.sending = some (.mark f) → s.link.markCollisions = 0 → s.port.running = none →
        exec .collision s = .next
          { s with link := { s.link with
              sending := none, reception := .mixed, markCollisions := 1
              collisions := if s.link.collisions < 255 then s.link.collisions + 1 else s.link.collisions
              markTimer := .runningToward (48 + 24 * s.own) } })
    ∧ ((∀ f, s.link.sending ≠ some (.mark f)) → s.link.ownCollisions = 0 →
        (s.isolationWaits = false → ∃ t, exec .collision s = .next t
          ∧ t.link.ownCollisions = 1 ∧ t.link.listDue = false ∧ t.agreement.trial = none ∧ t.link.state = s.link.state)
        ∧ (s.port.running = none → (∀ p, s.hasChange p = false) → exec .collision s = .next
          { s with
              link := { s.link with
                sending := none, ownCollisions := 1, listDue := false
                collisions := if s.link.collisions < 255 then s.link.collisions + 1 else s.link.collisions }
              notices := s.notices.map (fun q => { q with inFlight := false })
              agreement := { s.agreement with trial := none } }))
    ∧ (s.link.state.mayBeBarred = true →
        ((∃ f, s.link.sending = some (.mark f)) ∧ s.link.markCollisions = 1)
        ∨ ((∀ f, s.link.sending ≠ some (.mark f)) ∧ s.link.ownCollisions = 1) →
        ∃ t, exec .collision s = .next t ∧ t.link.state = .conflict ∧ t.hasEvent .linkchg = true)

/-! ## The link: frames sent -/

/-- 16 bt into the own slot the SLOT frame goes out, with the first six notices, which are then in flight; a frame start
detected in the slot before it keeps the station silent. The frame's digest is that of the own records after its notices,
applied to a copy of the tables. A frame that carries a JOIN before own initialised is set initialises the own points
first. -/
def Obligations.SlotFrameIsSent : Prop :=
  ∀ (s : State) (c : Nat), s.up = true → s.link.cycle = some c → s.link.sendDue = true → s.link.state.sends = true →
    s.link.position = .slot s.own → s.link.sending = none → s.link.foundingSlot = false →
    (∀ q ∈ s.notices, q.inFlight = false) →
    (s.link.silenceTimer ≠ .stopped → s.link.reception = .idle →
      ∃ t f, exec .slotFrameSend s = .next t ∧ t.link.sending = some (.slot f)
        ∧ f.sender = s.own ∧ f.zone = s.ownZone ∧ f.cycle = c ∧ f.listFollows = (s.entry s.own).listOwed
        ∧ f.notices = (s.notices.take 6).map (fun q => some q.notice)
        ∧ t.agreement.trial = some f.digest ∧ lkde t = true
        ∧ t.notices = (s.notices.take 6).map (fun q => { q with inFlight := true }) ++ s.notices.drop 6
        ∧ (∃ u, u = { t with link := u.link, agreement := u.agreement } ∧ u.link.state = t.link.state
            ∧ f.digest = (applyNotices s.own c true nothingInside 1 (f.notices.map (fun n => (n, false))) u).digest s.own)
        ∧ (s.link.ownInitialised = true ∨ (s.notices.take 6).any isJoin = false →
            t.points = s.points ∧ t.link.ownInitialised = s.link.ownInitialised)
        ∧ (s.link.ownInitialised = false → (s.notices.take 6).any isJoin = true → 1 ≤ s.own → s.own ≤ 24 →
            s.Initialised c t))
    ∧ (s.link.silenceTimer = .stopped ∨ s.link.reception ≠ .idle →
      exec .slotFrameSend s = .next { s with link := { s.link with sendDue := false } })

/-- The founder's first own slot, of cycle 1: the own points are initialised, or, when they were since the start, the
tables are treated for cycle 1 with a REBUILD entry; the link state, the queue and tables needed stay. Its SLOT frame
goes out either way. That the initialisation or the treatment is done at SLOT_FRAME_SEND is the model's reading (log entry
14). -/
def Obligations.FoundersSlot : Prop :=
  ∀ s : State, s.up = true → s.link.cycle = some 1 → s.link.sendDue = true → s.link.state = .running →
    s.link.position = .slot s.own → s.link.sending = none → s.link.foundingSlot = true → 1 ≤ s.own → s.own ≤ 24 →
    (∀ q ∈ s.notices, q.inFlight = false) →
    s.link.silenceTimer ≠ .stopped → s.link.reception = .idle → ∃ t f, exec .slotFrameSend s = .next t
      ∧ t.link.sending = some (.slot f) ∧ f.cycle = 1 ∧ f.notices = (s.notices.take 6).map (fun q => some q.notice)
      ∧ t.link.foundingSlot = false ∧ t.link.state = .running ∧ t.link.tablesNeeded = s.link.tablesNeeded
      ∧ t.notices.map (·.notice) = s.notices.map (·.notice)
      ∧ (s.link.ownInitialised = false → s.Initialised 1 t)
      ∧ (s.link.ownInitialised = true → s.Treated 1 t ∧ t.link.ownInitialised = true
          ∧ t.history = s.history.append { stamp := ⟨1, 0, 0⟩, kind := .rebuild, station := s.own })

/-- The own SLOT frame ends without collision: it is applied under c.own.47, its notices leave the queue, before or after
they are applied, the own entry is LIVE with the frame's digest, and the OWNED LIST follows when the frame said so. An
isolation that waits for the frame's end is taken, with its ISOLATE entry under c.own.47; that this is after the frame has
been applied, in either order with the new offers, is the model's reading (log entry 21). What falls inside, and the order
of application and removal, are operands (log entry 36). -/
def Obligations.OwnSlotFrameIsApplied : Prop :=
  ∀ (s : State) (f : SlotFrame) (inside : List Inside) (removedFirst : Bool),
    s.up = true → s.link.sending = some (.slot f) → f.sender = s.own → 1 ≤ s.own →
    s.own ≤ 24 → s.link.state.sends = true → s.link.cycle = some f.cycle →
    (s.isolationWaits = false → ∃ t, exec (.ownSlotFrameSent inside removedFirst) s = .next t
      ∧ t.link.sending = none ∧ t.link.current = ⟨f.cycle, s.own, 47⟩ ∧ t.link.position = .slot s.own
      ∧ t.link.listDue = f.listFollows ∧ t.link.state = s.link.state ∧ t.agreement.trial = none
      ∧ (f.listFollows = false → t.link.ownCollisions = 0)
      ∧ (∀ q ∈ t.notices, q.inFlight = false)
      ∧ (t.entry s.own).liveness = .live ∧ (t.entry s.own).digest = some f.digest
      ∧ ∀ p, p ≤ 15 → (t.record ⟨s.own, p⟩).ownerLost = false)
    ∧ (s.isolationWaits = true → (∀ q ∈ s.notices, q.cmdMark = false) →
      ∃ t, exec (.ownSlotFrameSent inside removedFirst) s = .next t
        ∧ t.link.state = .isolated ∧ t.link.sending = none ∧ t.link.current = ⟨f.cycle, s.own, 47⟩
        ∧ t.link.listDue = false ∧ t.notices = [] ∧ t.port.running = none ∧ t.port.result = .done
        ∧ t.port.modal.isIsolated = true
        ∧ { stamp := ⟨f.cycle, s.own, 47⟩, kind := .isolate, station := s.own } ∈ t.history.entries)

/-- 12 bt later the OWNED LIST goes out, built from the own records; at its end list owed is cleared and the own slot has
succeeded. An isolation that waits for its end is taken then, with its ISOLATE entry under the current stamp; that list owed
is cleared first is the model's reading (log entry 21). -/
def Obligations.OwnedListIsSent : Prop :=
  (∀ s : State, s.up = true → s.link.listDue = true → s.link.state.sends = true → s.link.sending = none →
    exec .ownedListSend s = .next
      { s with link := { s.link with
          listDue := false, sending := some (.list s.ownedList), reception := .frame, quiet := 0, markTimer := .stopped
          silenceTimer := .stopped, slotEndTimer := .stopped } })
  ∧ (∀ (s : State) (p : Nat), p ≤ 15 → s.ownedList.entries[p]? = some (some (entryOfRecord p (s.record ⟨s.own, p⟩))))
  ∧ ∀ (s : State) (f : ListFrame) (k : Nat), s.up = true → s.link.sending = some (.list f) →
      s.link.position = .slot k →
      (s.isolationWaits = false → exec .ownedListSent s = .next
        ((s.modifyEntry s.own (fun e => { e with listOwed := false })).mapLink (fun l => { l with
            sending := none, reception := .idle, slotEndTimer := .runningToward 24, ownCollisions := 0 })))
      ∧ (s.isolationWaits = true → s.link.state.sends = true → ∃ t, exec .ownedListSent s = .next t
        ∧ t.link.state = .isolated ∧ t.link.sending = none ∧ t.link.current = s.link.current
        ∧ (t.entry s.own).listOwed = false ∧ t.notices = [] ∧ t.port.running = none ∧ t.port.result = .done
        ∧ t.port.modal.isIsolated = true ∧ t.hasEvent .linkchg = true
        ∧ (s.notices = [] → t.history = s.history.append
            { stamp := s.link.current, kind := .isolate, station := s.own }))

/-- The mark timer of an entitled station sends a MARK with the next cycle number; its end without collision makes that
number current and begins slot 1. An isolation that waits for its end is taken then, under the stamp the MARK has set. That
the MARK goes out also while a mixed frame is in reception, which is dropped, is the model's choice (log entry 31); that the
station's own MARK is never a slip, and that the isolation is taken when the MARK has been applied, are its readings (log
entries 20 and 21). -/
def Obligations.OwnMarkIsSentAndApplied : Prop :=
  (∀ s : State, s.up = true → s.link.markTimer ≠ .stopped → s.entitled = true → s.link.sending = none →
    exec .markTimerExpiry s = .next
      { s with link := { s.link with
          sending := some (.mark ⟨s.own, s.slots, match s.link.cycle with
            | some c => if c < 2 ^ 40 - 1 then c + 1 else 1
            | none => 1⟩)
          reception := .frame, quiet := 0, markTimer := .stopped, silenceTimer := .stopped, slotEndTimer := .stopped } })
  ∧ (∀ (s : State) (f : MarkFrame), s.up = true → s.link.sending = some (.mark f) →
      (∀ c, s.link.cycle = some c → c < f.cycle) → s.isolationWaits = false →
      ∃ t, exec (.markReceived (Sending.mark f).bytes) s = .next t
        ∧ t.link.sending = none ∧ t.link.cycle = some f.cycle ∧ t.link.confirmed = true ∧ t.link.position = .slot 1
        ∧ t.link.current = ⟨f.cycle, 0, 0⟩ ∧ t.link.markCollisions = 0 ∧ t.link.slips = s.link.slips
        ∧ t.points = s.points)
  ∧ ∀ (s : State) (f : MarkFrame), s.up = true → s.link.sending = some (.mark f) →
      (∀ c, s.link.cycle = some c → c < f.cycle) → s.isolationWaits = true → s.link.state = .running → s.notices = [] →
      (∀ k, (s.entry k).resync = none) →
      ∃ t, exec (.markReceived (Sending.mark f).bytes) s = .next t
        ∧ t.link.state = .isolated ∧ t.link.cycle = some f.cycle ∧ t.link.current = ⟨f.cycle, 0, 0⟩
        ∧ t.port.result = .done ∧ t.port.running = none
        ∧ t.history = s.history.append { stamp := ⟨f.cycle, 0, 0⟩, kind := .isolate, station := s.own }

/-! ## The link: time -/

/-- The listen window starts the founder's mark timer; its expiry founds the link: RUNNING, a JOIN with need-tables clear
at the head of the queue, list owed, a MARK of cycle 1 on the line. A quiet link sends a joining station back to
LISTENING. -/
def Obligations.QuietLinkAndFounding : Prop :=
  ∀ s : State, s.up = true →
    (s.link.state = .listening → s.link.quiet < 65536 → exec .listenWindowExpiry s = .next
      { s with link := { s.link with quiet := 65536, markTimer := .runningToward (48 + 24 * s.own) } })
    ∧ (s.link.state = .listening → s.link.markTimer ≠ .stopped → s.notices = [] → 1 ≤ s.own → s.own ≤ 24 →
        ∃ t, exec .founding s = .next t
      ∧ t.link.state = .running ∧ t.link.cycle = none ∧ t.link.tablesNeeded = false ∧ t.link.foundingSlot = true
      ∧ t.link.sending = some (.mark ⟨s.own, s.slots, 1⟩)
      ∧ t.notices.head?.map (·.notice) = some (.join false)
      ∧ (t.entry s.own).listOwed = true ∧ t.hasEvent .linkchg = true ∧ t.points = s.points ∧ t.history = s.history)
    ∧ (s.link.state = .joining → s.link.quiet < 65536 → ∃ t, exec .joinQuietTimeout s = .next t
      ∧ t.link.state = .listening ∧ t.link.position = .unsynchronised ∧ t.link.confirmed = false
      ∧ t.link.cycle = s.link.cycle ∧ t.notices = [] ∧ t.link.markSeen = false ∧ t.link.quiet = 0
      ∧ t.hasEvent .linkchg = true ∧ t.points = s.points)

/-- A silent slot k of a confirmed cycle c: the current stamp is c.k.0, entry k moves by the table of R101, and the next
slot or the mark phase begins; an entry that becomes LOST raises its link-lost point, marks its field points and sets
STALOST. While cycle confirmed is clear nothing is reported. The end of an occupied slot, by the interval after a frame
or by the slot's length: the next slot begins, or after slot S the mark phase, in which an entitled station starts its
mark timer. A frame still in reception at the length limit is counted as invalid. -/
def Obligations.SlotsEnd : Prop :=
  (∀ (s : State) (k : Nat), s.up = true → s.link.position = .slot k → 1 ≤ k → k ≤ 24 →
    s.link.silenceTimer ≠ .stopped → s.link.state.appliesFrames = true → ∃ t, exec .silentSlot s = .next t
      ∧ t.link.position = (if k < s.slots then .slot (k + 1) else .markPhase)
      ∧ (s.link.confirmed = true → ∀ c, s.link.cycle = some c →
          t.link.current = ⟨c, k, 0⟩ ∧ (t.entry k).liveness = (s.entry k).liveness.afterSilence
          ∧ ((s.entry k).liveness = .silent2 →
              t.hasEvent .stalost = true ∧ (t.record ⟨k, 16⟩).active = true
              ∧ ((s.record ⟨k, 16⟩).active = false → (s.record ⟨k, 16⟩).state = .normal →
                  (t.record ⟨k, 16⟩).state = .alert ∧ (t.record ⟨k, 16⟩).alert = some ⟨c, k, 0⟩)
              ∧ ∀ p, p ≤ 15 → (t.record ⟨k, p⟩).ownerLost = true))
      ∧ (s.link.confirmed = false → s.agreement.deferred = none →
          t.link.current = s.link.current ∧ t.directory = s.directory ∧ t.points = s.points))
  ∧ ∀ (s : State) (k : Nat), s.up = true → s.link.position = .slot k →
    let ends (i : Instr) (errors : Nat) : Prop := ∃ t, exec i s = .next t ∧ t.link.frameErrors = errors
      ∧ t.link.sendDue = (decide (k < s.slots ∧ k + 1 = s.own) && s.link.state.sends && s.link.confirmed)
      ∧ t.link.listDue = false
      ∧ (k < s.slots → t.link.position = .slot (k + 1) ∧ t.link.silenceTimer = .runningToward 96
          ∧ t.link.lengthTimer = .runningToward 2720)
      ∧ (s.slots ≤ k → t.link.position = .markPhase ∧ t.link.markTimer =
          if s.entitled then .runningToward (48 + 24 * s.own) else .stopped)
    (s.link.slotEndTimer ≠ .stopped → ends .slotEnd s.link.frameErrors)
    ∧ (s.link.lengthTimer ≠ .stopped → ends .slotLengthLimit
        (if s.link.reception = .idle then s.link.frameErrors
          else if s.link.frameErrors < 255 then s.link.frameErrors + 1 else s.link.frameErrors))

/-! ## The tables -/

/-- The table treatment for cycle c: the records; requests and stale flags dropped; the Alarm List recomputed, every
point that is not NORMAL listed in stamp order and none unlisted; the first-out groups claimed anew; REBUILD recorded. -/
def Obligations.TableTreatmentRecomputes : Prop :=
  ∀ (c : Nat) (s : State), 1 ≤ s.own → s.own ≤ 24 →
    let t := tableTreatment c s
    s.Treated c t
    ∧ (∀ k, 1 ≤ k → k ≤ 24 → t.entry k = { s.entry k with resync := none, stale := false })
    ∧ t.list.unlistedCount = 0 ∧ t.list.generation = (s.list.generation + 1) % 256 ∧ t.hasEvent .listchg = true
    ∧ (∀ id, id ∈ t.list.entries ↔ id ∈ allPoints ∧ (t.record id).state ≠ .normal) ∧ t.list.entries.Nodup
    ∧ t.list.entries.Pairwise (fun a b => Stamp.earlier (t.alertOf b) (t.alertOf a) = false)
    ∧ (∀ g, 1 ≤ g → g ≤ 8 →
        (∀ id, t.holder g = some id ↔ id ∈ allPoints ∧ (t.record id).firstOut = true ∧ (t.record id).attrs.group = g)
        ∧ ∀ id ∈ allPoints, id.owner = s.own ∨ id.point = 16 → (s.record id).firstOut = true →
            (s.record id).attrs.group = g → t.holder g ≠ none)
    ∧ (s.groups.demand = s.causes.length → t.groups.demand = t.causes.length)
    ∧ t.history = s.history.append { stamp := ⟨c, 0, 0⟩, kind := .rebuild, station := s.own }
    ∧ t.agreement = { s.agreement with rebuildCycle := none } ∧ t.panel = { s.panel with silence := ⟨0, 0, 0⟩ }
    ∧ t.link = s.link ∧ t.notices = s.notices ∧ t.scanner = s.scanner

/-- The questions to the Alarm List and the notices that it answers: the newest stamp of the listed points that qualify;
the selection, in list order, and the walk, which brings the event to each selected point once, counts it, and records
one entry, of count 0 for an empty selection. Beside the selected points a walk changes no record but for an unlisted
flag. -/
def Obligations.SelectionsAndWalks : Prop :=
  (∀ (s : State) (qualifies : PointRecord → Bool) (mask : ZoneMask),
    let asked (id : PointId) (l : Stamp) : Prop := id ∈ s.list.entries ∧ qualifies (s.record id) = true
      ∧ inMask mask (s.zoneOf id.owner) = true ∧ (s.record id).alert = some l
    (s.newest qualifies mask = none ↔ ∀ id l, ¬ asked id l)
    ∧ ∀ l, s.newest qualifies mask = some l →
        (∃ id, asked id l) ∧ ∀ id l', asked id l' → Stamp.earlier l l' = false)
  ∧ (∀ (s : State) (qualifies : PointRecord → Bool) (mask : ZoneMask) (limit : Stamp),
    (s.selection qualifies mask limit).Sublist s.list.entries
    ∧ ∀ id, id ∈ s.selection qualifies mask limit ↔ id ∈ s.list.entries ∧ qualifies (s.record id) = true
        ∧ (∃ z, s.zoneOf id.owner = some z ∧ 1 ≤ z ∧ z ≤ 8 ∧ mask.getLsbD (z - 1) = true)
        ∧ Stamp.earlier limit (s.alertOf id) = false)
  ∧ (∀ r : PointRecord, (acknowledgeable r = true ↔ r.state = .alert ∨ r.state = .returned)
      ∧ (resettable r = true ↔ r.state = .ringback))
  ∧ ∀ (k i c : Nat) (own : Bool) (mask : ZoneMask) (limit : Stamp) (s : State), s.list.entries.Nodup →
    let walks (n : Notice) (kind : HistoryKind) (selection : List PointId)
        (event : PointRecord → PointRecord × ReportOutcome) : Prop :=
      let t := (applyNotice k own ⟨c, k, i⟩ n s).1
      (applyNotice k own ⟨c, k, i⟩ n s).2 = .count selection.length
      ∧ t.history = s.history.append
          { stamp := ⟨c, k, i⟩, kind := kind, station := k, actor := some k, count := some selection.length }
      ∧ ∀ id, t.record id = { (if id ∈ selection then (event (s.record id)).1 else s.record id) with
          unlisted := (t.record id).unlisted }
    walks (.ackUpto mask limit) .ackUpto (s.selection acknowledgeable mask limit) (applyAcknowledge k)
    ∧ walks (.resetUpto mask limit) .resetUpto (s.selection resettable mask limit) (applyReset k)

/-! ## The mailbox -/

/-- Before an image is delivered a command completes REFUSED as soon as it starts, with no other check; "WARM" is taken
in every link state and waits, visible in CMD. A write into a busy mailbox is ignored and counted, whatever code but
"ABRT" it carries; an unknown code in an idle one completes REFUSED. -/
def Obligations.CommandsRefusedOrCountedAtOnce : Prop :=
  (∀ s : State, s.mailboxIdle = true →
    (s.configured = false → ∀ code, code ≠ .warm → exec (Instr.ofCommand code) s = .next
      { s with port := (s.port.taken code s.link.current).completed .refused [] })
    ∧ exec .warm s = .next { s with port := s.port.taken .warm s.link.current })
  ∧ (∀ (s : State) (c : RunningCommand), s.serves = true → s.port.running = some c →
    ∀ i : Instr, ((∃ code, i = Instr.ofCommand code) ∨ (∃ w, w ≠ abortWord ∧ (i = .overrun w ∨ i = .unknownCommand w))) →
      exec i s = .next { s with port := { s.port.written with
        overrun := if s.port.overrun < 255 then s.port.overrun + 1 else s.port.overrun } })
  ∧ ∀ (s : State) (w : Word32), s.mailboxIdle = true → w ≠ 0 → w ≠ abortWord → commandOf w = none →
      exec (.unknownCommand w) s = .next { s with port := s.port.written.completed .refused [] }

/-- The mask and the limit of "ACKA" and "RSTA" by the table of R63. A notice command that passes its checks has its
notice appended with the command mark and stays in progress; "ACKA" and "RSTA" that find nothing to reach complete DONE
at once; "RSTA" makes the local reset action first. -/
def Obligations.NoticeCommandsQueueTheirNotice : Prop :=
  (∀ (s : State) (input : Vector Byte 16) (qualifies : PointRecord → Bool),
    maskInput input s = (if inputByte input 0 = 0 then s.viewMask else inputByte input 0)
    ∧ limitInput input qualifies s = (if stampAt input.toList 1 = ⟨0, 0, 0⟩ then s.newest qualifies (maskInput input s)
        else some (stampAt input.toList 1)))
  ∧ ∀ s : State, s.mailboxIdle = true → s.link.state = .running → s.notices.length < 12 →
    let input := s.port.data
    let queued (code : CommandCode) (n : Notice) (g : GroupUnit) : State :=
      { s with
          notices := s.notices ++ [{ notice := n, source := .command, age := 0, inFlight := false, cmdMark := true }]
          groups := g
          port := s.port.taken code s.link.current }
    let done (code : CommandCode) (g : GroupUnit) : State :=
      { s with groups := g, port := (s.port.taken code s.link.current).completed .done [] }
    (∀ l, limitInput input acknowledgeable s = some l →
        exec .acka s = .next (queued .acka (.ackUpto (maskInput input s) l) s.groups))
    ∧ (limitInput input acknowledgeable s = none → exec .acka s = .next (done .acka s.groups))
    ∧ (∀ l, limitInput input resettable s = some l →
        exec .rsta s = .next (queued .rsta (.resetUpto (maskInput input s) l) s.groups.released))
    ∧ (limitInput input resettable s = none → exec .rsta s = .next (done .rsta s.groups.released))
    ∧ (ackpInRange input = true → exec .ackp s = .next
        (queued .ackp (.ackPoint (ownerInput input) (pointInput input) (occurrenceInput input)) s.groups))
    ∧ (s.unlocked = true → shelveInRange input = true →
        exec .shlv s = .next (queued .shlv (.shelve (ownerInput input) (pointInput input)) s.groups)
        ∧ exec .unsh s = .next (queued .unsh (.unshelve (ownerInput input) (pointInput input)) s.groups))

/-- The checks of a notice command in their order, nothing else changing but what each names: LOCKED, with LOCKREF and
LOCK REFUSED; REFUSED for the link state; REFUSED for the inputs; FULL, with QFULL, for each of the five notice commands.
"RSTA" makes the local reset action first. -/
def Obligations.NoticeCommandChecks : Prop :=
  ∀ s : State, s.mailboxIdle = true → s.configured = true →
    let input := s.port.data
    let ends (code : CommandCode) (r : CommandResult) (p : Port → Port) : State :=
      { s with port := (p (s.port.taken code s.link.current)).completed r [] }
    (∀ code ∈ [CommandCode.shlv, .unsh, .isol, .clrh], s.unlocked = false → ∃ t,
        exec (Instr.ofCommand code) s = .next t
        ∧ t = { ends code .locked id with
            port := { (ends code .locked id).port with events := t.port.events }, history := t.history }
        ∧ (∀ e, t.hasEvent e = (s.hasEvent e || e = .cmddone || e = .lockref
            || (e = .histovf && decide (48 ≤ s.history.entries.length))))
        ∧ t.history = s.history.append { stamp := s.link.current, kind := .lockRefused, station := s.own })
    ∧ (s.link.state ≠ .running → exec .acka s = .next (ends .acka .refused id)
        ∧ exec .ackp s = .next (ends .ackp .refused id)
        ∧ exec .rsta s = .next { ends .rsta .refused id with groups := s.groups.released }
        ∧ (s.unlocked = true →
            exec .shlv s = .next (ends .shlv .refused id) ∧ exec .unsh s = .next (ends .unsh .refused id)))
    ∧ (s.link.state = .running → ackpInRange input = false → exec .ackp s = .next (ends .ackp .refused id))
    ∧ (s.link.state = .running → shelveInRange input = false → s.unlocked = true →
        exec .shlv s = .next (ends .shlv .refused id) ∧ exec .unsh s = .next (ends .unsh .refused id))
    ∧ (s.link.state = .running → 12 ≤ s.notices.length →
        (limitInput input acknowledgeable s ≠ none → exec .acka s = .next (ends .acka .full (·.flagged .qfull)))
        ∧ (limitInput input resettable s ≠ none →
            exec .rsta s = .next { ends .rsta .full (·.flagged .qfull) with groups := s.groups.released })
        ∧ (ackpInRange input = true → exec .ackp s = .next (ends .ackp .full (·.flagged .qfull)))
        ∧ (s.unlocked = true → shelveInRange input = true →
            exec .shlv s = .next (ends .shlv .full (·.flagged .qfull))
            ∧ exec .unsh s = .next (ends .unsh .full (·.flagged .qfull))))

/-- The completion of the command whose notice has been applied: result, count or outcome, and the notice's stamp. -/
def Obligations.AppliedNoticeCompletesItsCommand : Prop :=
  ∀ (s : State) (c : RunningCommand) (stamp : Stamp), s.port.running = some c →
    let ends (r : CommandResult) (first : Byte) : State :=
      { s with port := s.port.completed r (first :: stampBytes stamp) }
    (∀ n, c.code = .acka ∨ c.code = .rsta → completeApplied stamp (.count n) s = ends .done (BitVec.ofNat 8 n))
    ∧ (c.code = .ackp → completeApplied stamp (.outcome .applied) s = ends .done 0
        ∧ completeApplied stamp (.outcome .stale) s = ends .stale 0)
    ∧ (c.code = .shlv ∨ c.code = .unsh → completeApplied stamp (.outcome .applied) s = ends .done 0
        ∧ completeApplied stamp (.outcome .duplicate) s = ends .done 1
        ∧ completeApplied stamp (.outcome .ignored) s = ends .done 2)

/-- "SILN" and the SILENCE button set the silence stamp, to the current stamp or, during a rebuild to cycle c, to c.0.0;
"TEST" starts a timed LAMP TEST, "CLRH" on an unlocked station empties the log; each command completes at once. -/
def Obligations.LocalCommandsCompleteAtOnce : Prop :=
  (∀ s : State, s.up = true →
    (s.agreement.rebuildCycle = none →
      exec .silencePress s = .next { s with panel := { s.panel with silence := s.link.current } })
    ∧ ∀ c, s.agreement.rebuildCycle = some c →
      exec .silencePress s = .next { s with panel := { s.panel with silence := ⟨c, 0, 0⟩ } })
  ∧ ∀ s : State, s.mailboxIdle = true → s.configured = true →
    (exec .siln s = .next
      { s with
          panel := { s.panel with silence := match s.agreement.rebuildCycle with
            | some c => ⟨c, 0, 0⟩
            | none => s.link.current }
          port := (s.port.taken .siln s.link.current).completed .done [] })
    ∧ (s.unlocked = true → exec .clrh s = .next
      { s with history := ⟨[], 0⟩, port := (s.port.taken .clrh s.link.current).completed .done [] })
    ∧ (secondsInput s.port.data = 0 → exec .test s = .next
      { s with port := (s.port.taken .test s.link.current).completed .refused [] })
    ∧ (secondsInput s.port.data ≠ 0 → s.link.state ≠ .isolated → exec .test s = .next
      { s with port := { (s.port.taken .test s.link.current).completed .done [] with
          modal := .lampTest (some (secondsInput s.port.data)) } })
    ∧ (secondsInput s.port.data ≠ 0 → s.link.state = .isolated → ∃ t, exec .test s = .next t
      ∧ t.link.state = .joining ∧ t.port.modal = .lampTest (some (secondsInput s.port.data))
      ∧ t.port.result = .done ∧ t.port.running = none)

/-- "ISOL" on an unlocked station: at once, at the end of the own frame being sent, as a restart of the delay, or
declined. Its ISOLATE entry and the QUEUE FLUSH entry, which counts the notices, come in either order. "RJON" outside ISOLATED
is refused, locked or not. -/
def Obligations.IsolationIsTakenOrDeclined : Prop :=
  (∀ s : State, s.mailboxIdle = true → s.unlocked = true →
    let delay := if secondsInput s.port.data = 0 then none else some (secondsInput s.port.data)
    ((s.link.state = .running ∨ s.link.state = .joining) → s.link.sending = none → ∃ t, exec .isol s = .next t
      ∧ t.link.state = .isolated ∧ t.port.modal = .isolated delay ∧ t.port.result = .done ∧ t.port.running = none
      ∧ t.notices = [] ∧ t.panel.heldAck = none ∧ t.panel.heldReset = none ∧ t.link.markTimer = .stopped
      ∧ (t.entry s.own).listOwed = false ∧ t.hasEvent .linkchg = true ∧ t.points = s.points
      ∧ (s.notices = [] →
          t.history = s.history.append { stamp := s.link.current, kind := .isolate, station := s.own })
      ∧ (s.notices ≠ [] →
          let isolate : HistoryEntry := { stamp := s.link.current, kind := .isolate, station := s.own }
          let flushed : HistoryEntry :=
            { stamp := s.link.current, kind := .queueFlush, station := s.own, count := some s.notices.length }
          t.history = (s.history.append isolate).append flushed ∨ t.history = (s.history.append flushed).append isolate))
    ∧ ((s.link.state = .running ∨ s.link.state = .joining) → s.link.sending ≠ none → exec .isol s = .next
      { s with port := s.port.taken .isol s.link.current })
    ∧ (s.link.state = .isolated → exec .isol s = .next
      { s with port := { (s.port.taken .isol s.link.current).completed .done [] with modal := .isolated delay } })
    ∧ ((s.link.state = .listening ∨ s.link.state = .conflict ∨ s.link.state = .mismatch) → exec .isol s = .next
      { s with port := (s.port.taken .isol s.link.current).completed .refused [] }))
  ∧ ∀ s : State, s.mailboxIdle = true → s.configured = true → s.link.state ≠ .isolated → exec .rjon s = .next
      { s with port := (s.port.taken .rjon s.link.current).completed .refused [] }

/-- "LKEY" by the table of R180, and what unlocks a station. -/
def Obligations.LockKeyTable : Prop :=
  (∀ (s : State) (image : Image), s.loader.image = some image → (s.unlocked = true ↔ s.port.key = image.unlock))
  ∧ ∀ s : State, s.mailboxIdle = true → s.configured = true → ∀ image, s.loader.image = some image →
    let v := keyInput s.port.data
    let ends (r : CommandResult) (key : Word32) : State :=
      { s with port := { (s.port.taken .lkey s.link.current).completed r [] with key := key } }
    ((s.port.key = 0 ∨ s.port.key = image.unlock) →
      (v = 0 ∨ v = image.unlock → exec .lkey s = .next (ends .done v))
      ∧ (v ≠ 0 → v ≠ image.unlock → exec .lkey s = .next (ends .locked v)))
    ∧ (s.port.key ≠ 0 → s.port.key ≠ image.unlock → exec .lkey s = .next (ends .locked s.port.key))

/-- "ABRT": nothing in an idle mailbox, the withdrawal of a queued notice, the wait for a notice in flight, the
withdrawal of a waiting isolation, and no effect on "WARM". -/
def Obligations.AbortTable : Prop :=
  ∀ s : State, s.serves = true →
    (s.port.running = none → exec .abrt s = .next { s with port := s.port.written })
    ∧ ∀ c, s.port.running = some c →
      (c.code = .warm → exec .abrt s = .next { s with port := s.port.written })
      ∧ (c.code = .isol → exec .abrt s = .next { s with port := s.port.written.completed .aborted [] })
      ∧ ∀ q, c.code ∈ [CommandCode.acka, .ackp, .rsta, .shlv, .unsh] → s.commandNotice = some q →
        (q.inFlight = true → exec .abrt s = .next
          { s with port := { s.port.written with running := some { c with abortWaiting := true } } })
        ∧ (q.inFlight = false → s.notices.length < 12 → exec .abrt s = .next
          { s with
              notices := s.notices.eraseP (fun q => q.cmdMark)
              port := s.port.written.completed .aborted [] })

/-! ## The port -/

/-- A byte written at a window address: the places that ignore writes, those that act byte by byte, and the last byte of
CMD and of SELECT, which makes the write when every byte of the field has been written in the transaction. EVENTS clears
the flags written as 1, EVENTMASK sets the enables it covers, a write to the counters zeroes all four. -/
def Obligations.RegisterWritesByPlace : Prop :=
  ∀ (s : State) (a : BitVec 7) (v : Byte), s.serves = true →
    let exe := exec (.registerWrite a v) s
    let n := a.toNat
    ((n < 0x0C ∨ (0x14 ≤ n ∧ n < 0x1A) ∨ 0x31 ≤ n) → exe = .next { s with port := s.port.wrote n })
    ∧ (0x0C ≤ n → n < 0x0E → exe = exec (.eventsWrite (n - 0x0C) v) s)
    ∧ (exec (.eventsWrite 0 v) s = .next { s with port := { s.port.wrote 0x0C with
        events := s.port.events &&& ~~~ (v.setWidth 12 <<< 8) } })
    ∧ (exec (.eventsWrite 1 v) s = .next { s with port := { s.port.wrote 0x0D with
        events := s.port.events &&& ~~~ (v.setWidth 12) } })
    ∧ (0x0E ≤ n → n < 0x10 → exe = exec (.eventmaskWrite (n - 0x0E) v) s)
    ∧ (exec (.eventmaskWrite 0 v) s = .next { s with port := { s.port.wrote 0x0E with
        enables := (s.port.enables &&& 0x0FF) ||| (v.setWidth 12 <<< 8) } })
    ∧ (exec (.eventmaskWrite 1 v) s = .next { s with port := { s.port.wrote 0x0F with
        enables := (s.port.enables &&& 0xF00) ||| v.setWidth 12 } })
    ∧ (0x10 ≤ n → n < 0x14 → exe = exec (.countersWrite (n - 0x10) v) s)
    ∧ (∀ offset, offset ≤ 3 → exec (.countersWrite offset v) s = .next
        { s with
            port := s.port.wrote (0x10 + offset)
            link := { s.link with frameErrors := 0, collisions := 0, slips := 0 }
            agreement := { s.agreement with lapses := 0 } })
    ∧ (∀ i (h : i < 16), n = 0x1E + i →
        exe = .next { s with port := { s.port.wrote n with data := s.port.data.set i v } })
    ∧ (∀ i (h : i < 4), n = 0x1A + i → i ≠ 3 →
        exe = .next { s with port := { s.port.wrote n with cmdPart := s.port.cmdPart.set i (some v) } })
    ∧ (∀ x y z w, n = 0x1D → s.port.cmdPart = #v[some x, some y, some z, w] → ∀ code : CommandCode,
        code.word = x ++ y ++ z ++ v → exe = exec (Instr.ofCommand code) s)
    ∧ (n = 0x1D → s.port.cmdPart[0] = none →
        exe = .next { s with port := { s.port.wrote n with cmdPart := s.port.cmdPart.set 3 (some v) } })
    ∧ (∀ i (h : i < 3), n = 0x2E + i → i ≠ 2 →
        exe = .next { s with port := { s.port.wrote n with selectPart := s.port.selectPart.set i (some v) } })
    ∧ (∀ o x w, n = 0x30 → s.port.selectPart = #v[some o, some x, w] →
        exe = exec (.selectWrite o (x ++ v)) s)

/-- IRQN is low exactly while some flag is set whose enable is set; all enables are disabled after each start. -/
def Obligations.IrqnFollowsFlagsAndEnables : Prop :=
  (∀ s : State, s.up = true →
    (irqnLow s = true ↔ ∃ e : Event, s.hasEvent e = true ∧ s.port.enables.getLsbD e.bit = true))
  ∧ (∀ (h : History) (s : State), (startValues h s).port.enables = 0 ∧ (startValues h s).port.events = 0)
  ∧ (∀ (s : State) (e : Event), (setEvent e s).hasEvent e = true
      ∧ ∀ e', s.hasEvent e' = true → (setEvent e s).hasEvent e' = true)
  ∧ ∀ (s : State) (offset : Nat) (v : Byte), s.up = true → offset ≤ 1 →
      ∃ t, exec (.eventmaskWrite offset v) s = .next t ∧ t.port.events = s.port.events

/-- SELECT takes the object and the index modulo its size, or is ignored whole; it loads nothing, and reads back as set.
Each object's index names the record the table gives. RECORD_LOAD copies the record and advances the index, wrapping; the
latch reads at 40h to 4Fh. Every other place of the window, byte by byte with its codes, and 00h outside the places. The
revision number is a free value (log entry 5); that CYCLE shows the current cycle number is log entry 30. -/
def Obligations.RecordSelectorAndLatch : Prop :=
  (∀ (s : State) (o : RecordObject) (index : BitVec 16), s.serves = true →
    exec (.selectWrite o.code index) s = .next { s with port := { s.port.wrote 0x30 with
      object := o
      index := index.toNat % (match o with | .alarmList => 80 | .pointTable => 408 | .directory => 24 | .history => 48)
      selectPart := .replicate 3 none } })
  ∧ (∀ (s : State) (object : Byte) (index : BitVec 16), s.serves = true → 3 < object.toNat →
    exec (.selectWrite object index) s = .next { s with port := { s.port.wrote 0x30 with
      selectPart := .replicate 3 none } })
  ∧ (∀ s : State, s.serves = true → ∃ t, exec .recordLoad s = .next t
      ∧ t = { s with port := { s.port with
          transaction := .reading 0x40, latch := t.port.latch, index := t.port.index } }
      ∧ t.port.latch = sixteen (recordAt s s.port.object s.port.index)
      ∧ (s.port.index < s.port.object.size →
          t.port.index = if s.port.index = s.port.object.size - 1 then 0 else s.port.index + 1))
  ∧ (RecordObject.alarmList.code = 0 ∧ RecordObject.pointTable.code = 1 ∧ RecordObject.directory.code = 2
      ∧ RecordObject.history.code = 3)
  ∧ (∀ (s : State) (i : Nat),
      (∀ id, s.list.entries[i]? = some id → recordAt s .alarmList i = listRecord s id)
      ∧ (s.list.entries.length ≤ i → recordAt s .alarmList i = [])
      ∧ recordAt s .pointTable i = tableRecord s (pointAtIndex i)
      ∧ recordAt s .directory i = directoryRecord s (i + 1)
      ∧ (∀ e, s.history.entries[i]? = some e → recordAt s .history i = historyRecord e)
      ∧ (s.history.entries.length ≤ i → recordAt s .history i = []))
  ∧ (∀ (s : State) (i : Nat) (h : i < 16), windowByte s (0x40 + i) = s.port.latch[i]
      ∧ windowByte s 0x2E = s.port.object.code
      ∧ (s.port.index < 65536 →
          (windowByte s 0x2F).toNat * 256 + (windowByte s 0x30).toNat = s.port.index))
  ∧ [Event.cmddone, .newalert, .listchg, .stalost, .stajoin, .linkchg, .resync, .frameerr, .qfull, .histovf, .lockref,
      .cfgflt].map Event.bit = List.range 12
  ∧ ∀ s : State,
    (windowByte s 0x00 = 0x50 ∧ windowByte s 0x01 = 0x42 ∧ windowByte s 0x02 = 0x18
      ∧ windowByte s 0x03 = Config.siliconRevision)
    ∧ windowByte s 0x04 = (match s.link.state with
      | .configuring => 0 | .configFault => 1 | .listening => 2 | .joining => 3 | .running => 4 | .isolated => 5
      | .conflict => 6 | .mismatch => 7)
    ∧ windowByte s 0x05 = (match s.port.modal with | .none => 0 | .lampTest _ => 1 | .isolated _ => 2)
    ∧ (s.loader.image = none → windowByte s 0x06 = 0)
    ∧ (∀ i, s.loader.image = some i → windowByte s 0x06 = BitVec.ofNat 8 i.address)
    ∧ (s.link.cycle = none → ∀ i, i < 5 → windowByte s (0x07 + i) = 0)
    ∧ (∀ c, s.link.cycle = some c → ∀ i, i < 5 → windowByte s (0x07 + i) = BitVec.ofNat 8 (c / 256 ^ (4 - i)))
    ∧ (∀ e : Event, (windowByte s (0x0D - e.bit / 8)).getLsbD (e.bit % 8) = s.hasEvent e
        ∧ (windowByte s (0x0F - e.bit / 8)).getLsbD (e.bit % 8) = s.port.enables.getLsbD e.bit)
    ∧ (∀ i, 4 ≤ i → (windowByte s 0x0C).getLsbD i = false ∧ (windowByte s 0x0E).getLsbD i = false)
    ∧ windowByte s 0x10 = BitVec.ofNat 8 s.link.frameErrors ∧ windowByte s 0x11 = BitVec.ofNat 8 s.link.collisions
    ∧ windowByte s 0x12 = BitVec.ofNat 8 s.link.slips ∧ windowByte s 0x13 = BitVec.ofNat 8 s.agreement.lapses
    ∧ windowByte s 0x14 = BitVec.ofNat 8 s.list.entries.length ∧ windowByte s 0x15 = BitVec.ofNat 8 s.list.generation
    ∧ windowByte s 0x16 = BitVec.ofNat 8 s.history.entries.length
    ∧ windowByte s 0x17 = BitVec.ofNat 8 (s.history.overflow / 256)
    ∧ windowByte s 0x18 = BitVec.ofNat 8 s.history.overflow
    ∧ windowByte s 0x19 = (match s.port.result with
      | .done => 0 | .aborted => 1 | .stale => 2 | .refused => 3 | .full => 4 | .locked => 5 | .absent => 6)
    ∧ (s.port.running = none → ∀ i, i < 4 → windowByte s (0x1A + i) = 0)
    ∧ (∀ c, s.port.running = some c → ∀ x ∈ [(CommandCode.acka, "ACKA"), (.ackp, "ACKP"), (.rsta, "RSTA"),
        (.shlv, "SHLV"), (.unsh, "UNSH"), (.siln, "SILN"), (.test, "TEST"), (.clrh, "CLRH"), (.isol, "ISOL"),
        (.rjon, "RJON"), (.lkey, "LKEY"), (.warm, "WARM")], c.code = x.1 →
        ∀ i, i < 4 → windowByte s (0x1A + i) = BitVec.ofNat 8 (x.2.toList.getD i ' ').toNat)
    ∧ (∀ (i : Nat) (h : i < 16), windowByte s (0x1E + i) = s.port.data[i])
    ∧ ∀ a, (0x31 ≤ a ∧ a < 0x40) ∨ 0x50 ≤ a → windowByte s a = 0

/-- The sixteen bytes of a record of each object, place by place as R194 lays them out; the codes of the history kinds.
-/
def Obligations.RecordLayouts : Prop :=
  (∀ (s : State) (id : PointId), id.owner ≤ 24 → id.point ≤ 16 →
    let r := s.record id
    let listed (bs : List Byte) : Prop := bs.length = 16 ∧ byteAt bs 0 = 1
      ∧ (byteAt bs 1).toNat = id.owner ∧ (byteAt bs 2).toNat = id.point
      ∧ byteAt bs 3 = stateFlagsByte r.state r.active r.shelved r.firstOut
      ∧ (byteAt bs 4).getLsbD 1 = r.ownerLost ∧ (∀ i, 3 ≤ i → (byteAt bs 4).getLsbD i = false)
      ∧ byteAt bs 5 = attributesByte r.attrs ∧ byteAt bs 6 = BitVec.ofNat 8 r.occurrence
      ∧ (bs.drop 7).take 7 = stampBytes (r.alert.getD ⟨0, 0, 0⟩)
      ∧ byteAt bs 14 = BitVec.ofNat 8 (r.lastActor.getD 0)
    let own := id.owner = s.own ∧ id.point ≤ 15
    listed (listRecord s id) ∧ (byteAt (listRecord s id) 4).getLsbD 0 = false
    ∧ (byteAt (listRecord s id) 4).getLsbD 2 = false ∧ byteAt (listRecord s id) 15 = 0
    ∧ listed (tableRecord s id) ∧ (byteAt (tableRecord s id) 4).getLsbD 0 = r.unlisted
    ∧ (byteAt (tableRecord s id) 4).getLsbD 2 = decide own
    ∧ byteAt (tableRecord s id) 15 = if own then BitVec.ofNat 8 (s.input id.point).chatter else 0)
  ∧ (∀ (s : State) (k : Nat), k ≤ 24 →
    let e := s.entry k
    let bs := directoryRecord s k
    bs.length = 16 ∧ byteAt bs 0 = 1 ∧ (byteAt bs 1).toNat = k
    ∧ byteAt bs 2 = (match e.liveness with
        | .unknown => 0
        | .live => 1
        | .silent1 => 2
        | .silent2 => 3
        | .lost => 4)
    ∧ byteAt bs 3 = BitVec.ofNat 8 (e.zone.getD 0) ∧ (bs.drop 4).take 5 = beBytes 5 (e.lastCycle.getD 0)
    ∧ (bs.drop 9).take 2 = beBytes 2 (e.digest.getD 0).toNat
    ∧ (byteAt bs 11).getLsbD 0 = e.digest.isSome ∧ (byteAt bs 11).getLsbD 1 = e.listOwed
    ∧ (byteAt bs 11).getLsbD 2 = e.stale ∧ (byteAt bs 11).getLsbD 3 = e.resync.isSome
    ∧ (byteAt bs 11).getLsbD 4 = e.joinWait.isSome
    ∧ byteAt bs 12 = BitVec.ofNat 8 (e.resync.getD 0) ∧ byteAt bs 13 = BitVec.ofNat 8 (e.joinWait.getD 0)
    ∧ byteAt bs 14 = 0 ∧ byteAt bs 15 = 0)
  ∧ (∀ e : HistoryEntry,
    let bs := historyRecord e
    bs.length = 16 ∧ byteAt bs 0 = 1 ∧ byteAt bs 1 = e.kind.code ∧ byteAt bs 2 = BitVec.ofNat 8 e.station
    ∧ (byteAt bs 3).getLsbD 0 = e.point.isSome ∧ (byteAt bs 3).getLsbD 1 = e.occurrence.isSome
    ∧ (byteAt bs 3).getLsbD 2 = e.actor.isSome ∧ (byteAt bs 3).getLsbD 3 = e.count.isSome
    ∧ (byteAt bs 3).getLsbD 4 = false ∧ (byteAt bs 3).getLsbD 5 = false
    ∧ (byteAt bs 3).toNat / 64 = (match e.cls with
        | none => 0
        | some .shutdown => 1
        | some .alarm => 2
        | some .advisory => 3)
    ∧ (bs.drop 4).take 7 = stampBytes e.stamp ∧ byteAt bs 11 = BitVec.ofNat 8 (e.point.getD 0)
    ∧ byteAt bs 12 = BitVec.ofNat 8 (e.occurrence.getD 0) ∧ byteAt bs 13 = BitVec.ofNat 8 (e.actor.getD 0)
    ∧ (bs.drop 14).take 2 = beBytes 2 (e.count.getD 0))
  ∧ sixteen [] = Vector.replicate 16 0
  ∧ [HistoryKind.raise, .clear, .ackPoint, .shelve, .unshelve, .ackUpto, .resetUpto, .staleAck, .overflow, .lost, .joined,
      .isolate, .rejoin, .conflict, .mismatch, .rebuild, .resync, .lapse, .queueAged, .queueFlush, .lockRefused,
      .restart].map HistoryKind.code = (List.range 22).map (fun i => BitVec.ofNat 8 (i + 1))

/-- Transactions and lines. The current address advances after each byte; the bytes of a write bring one write each, a
read brings a load at each 4Fh; a partial byte is discarded. A start abandons the transaction in progress, whose bytes
then do nothing until SSN has risen. MISO carries 00h under the address byte and in a write, the window in a read, each byte most
significant bit first, one bit for each fall of SCK; a read that reaches the first byte of a field of several bytes gives the
field as it stood then, one that begins inside gives each byte as it stands, as it does for every other place. LKTX carries
start bit, data and stop bit of the frame being sent, and is high while LKDE is inactive. -/
def Obligations.TransactionsAndLines : Prop :=
  (∀ a, a < 128 → nextAddress a = if a = 0x4F then 0x40 else if a = 0x7F then 0x00 else a + 1)
  ∧ (∀ (bytes : List Byte) (part : List Bool), part.length < 8 →
      wholeBytes (bytes.flatMap (fun b => (List.range 8).map (fun i => b.getLsbD (7 - i))) ++ part) = bytes)
  ∧ (∀ (mosi : List Bool) (a : Byte) (data : List Byte), wholeBytes mosi = a :: data →
      transactionRows mosi = (if a.getLsbD 7 then readRows (a.toNat % 128) data.length
        else writeRows (a.toNat % 128) data) ++ [.ssnRising])
  ∧ (∀ (a n : Nat) (v : Byte) (vs : List Byte),
      writeRows a (v :: vs) = .registerWrite (BitVec.ofNat 7 a) v :: writeRows (nextAddress a) vs
      ∧ readRows a (n + 1) = (if a = 0x4F then [.recordLoad] else []) ++ readRows (nextAddress a) n)
  ∧ (∀ s : State, s.port.transaction = .abandoned → (∀ c, s.port.running = some c → c.code ≠ .warm) →
      (∀ i : Instr, (∃ a v, i = .registerWrite a v) ∨ (∃ o v, i = .eventsWrite o v ∨ i = .eventmaskWrite o v
          ∨ i = .countersWrite o v) ∨ (∃ o x, i = .selectWrite o x) ∨ i = .recordLoad ∨ i = .abrt
          ∨ (∃ code, i = Instr.ofCommand code) ∨ (∃ w, i = .unknownCommand w ∨ i = .overrun w) → exec i s = .next s)
      ∧ ∃ t, exec .ssnRising s = .next t ∧ t.port.transaction = .idle)
  ∧ (∀ (a : Byte) (states : List State), (misoBytes a states).length = states.length + 1
      ∧ (a.getLsbD 7 = false → misoBytes a states = List.replicate (states.length + 1) 0)
      ∧ (a.getLsbD 7 = true → misoBytes a states = 0 :: readTransaction (a.toNat % 128) states))
  ∧ (∀ (ssnLow : Bool) (s : State) (a : Byte) (states : List State) (n : Nat),
      (ssnLow = false ∨ s.serves = false → miso ssnLow s a states n = none)
      ∧ (ssnLow = true → s.serves = true →
        (n < 8 → miso ssnLow s a states n = some false)
        ∧ ∀ j i b, i < 8 → n = 8 * j + i → (misoBytes a states)[j]? = some b →
            miso ssnLow s a states n = some (b.getLsbD (7 - i))))
  ∧ (∀ x ∈ [(0x07, 5), (0x0C, 2), (0x0E, 2), (0x17, 2), (0x1A, 4), (0x2E, 3)],
      (∀ (a : Nat) (before states after : List State) (s : State), a + before.length = x.1 → states.length + 1 = x.2 →
        ((readTransaction a (before ++ s :: states ++ after)).drop before.length).take x.2 =
          (List.range x.2).map (fun i => windowByte s (x.1 + i)))
      ∧ ∀ (a i : Nat) (states : List State) (s : State), x.1 < a → a + i < x.1 + x.2 → states[i]? = some s →
        (readTransaction a states)[i]? = some (windowByte s (a + i)))
  ∧ (∀ (a i : Nat) (states : List State) (s : State), a + i < 0x50 ∨ (0x50 ≤ a ∧ a + i < 0x80) → states[i]? = some s →
      wholeField (a + i) = none → (readTransaction a states)[i]? = some (windowByte s (a + i)))
  ∧ (∀ a, wholeField a = none ↔
      ∀ x ∈ [(0x07, 5), (0x0C, 2), (0x0E, 2), (0x17, 2), (0x1A, 4), (0x2E, 3)], a < x.1 ∨ x.1 + x.2 ≤ a)
  ∧ (∀ s t : State, readTransaction 0x4F [s, t] = [windowByte s 0x4F, windowByte t 0x40])
  ∧ (∀ (s : State) (n : Nat), lkde s = false → lktx s n = true)
  ∧ ∀ (s : State) (f : Sending) (j : Nat), s.up = true → s.link.sending = some f → j < f.bytes.length →
      lkde s = true ∧ lktx s (10 * j) = false ∧ lktx s (10 * j + 9) = true
      ∧ ∀ i, i < 8 → lktx s (10 * j + 1 + i) = (byteAt f.bytes j).getLsbD i

/-! ## Records -/

/-- Adoption of carried attributes: an annunciated point whose class becomes ADVISORY comes to rest, a changed group
takes the first-out flag, and any other change alters no other field. RAISE and CLEAR on a record: adoption, then the
tables of R13 and R14 with the occurrence of R7 and the clear of R9 under both sequences. -/
def Obligations.RaiseAndClearTables : Prop :=
  (∀ (a : Attributes) (r : PointRecord),
    let rests := a.cls = .advisory ∧ r.attrs.cls ≠ .advisory ∧ r.state ≠ .normal
    adopt a r = { r with
      attrs := a
      state := if rests then .normal else r.state
      alert := if rests then none else r.alert
      firstOut := if rests ∨ a.group ≠ r.attrs.group then false else r.firstOut })
  ∧ ((∀ (k p o i : Nat) (own : Bool) (a : Attributes) (c : Nat) (s : State),
    (applyNotice k own ⟨c, k, i⟩ (.raise p o a) s).1
      = (recordEvent ⟨k, p⟩ .raise ⟨c, k, i⟩ (some k) (applyRaise o a ⟨c, k, i⟩) s).1)
  ∧ ∀ (o : Nat) (a : Attributes) (stamp : Stamp) (old : PointRecord),
    let r := adopt a old
    let occurrence := if o = 0 then (if old.occurrence < 255 then old.occurrence + 1 else 1) else o
    (old.active = true → applyRaise o a stamp old = (r, .duplicate))
    ∧ (old.active = false → old.shelved = true ∨ a.cls = .advisory →
        applyRaise o a stamp old = ({ r with active := true, occurrence := occurrence }, .applied))
    ∧ (old.active = false → old.shelved = false → a.cls ≠ .advisory →
        r.state = .normal ∨ r.state = .returned ∨ r.state = .ringback →
        applyRaise o a stamp old = ({ r with
          active := true, occurrence := occurrence, state := .alert, alert := some stamp, lastActor := none }, .applied)))
  ∧ (∀ (k p o i : Nat) (own : Bool) (a : Attributes) (c : Nat) (s : State),
    (applyNotice k own ⟨c, k, i⟩ (.clear p o a) s).1
      = (recordEvent ⟨k, p⟩ .clear ⟨c, k, i⟩ (some k) (applyClear o a) s).1)
  ∧ ∀ (o : Nat) (a : Attributes) (old : PointRecord),
    let r := adopt a old
    let occurrence := if o = 0 then old.occurrence else o
    let cleared := { r with active := false, occurrence := occurrence }
    (old.active = false → applyClear o a old = (r, .duplicate))
    ∧ (old.active = true → old.shelved = true ∨ a.cls = .advisory ∨ r.state = .normal →
        applyClear o a old = (cleared, .applied))
    ∧ (old.active = true → old.shelved = false → a.cls ≠ .advisory →
        (r.state = .alert → applyClear o a old = ({ cleared with state := .returned }, .applied))
        ∧ (r.state = .acked → a.seq = .manualReset →
            applyClear o a old = ({ cleared with state := .ringback }, .applied))
        ∧ (r.state = .acked → a.seq = .autoReset →
            applyClear o a old = ({ cleared with state := .normal, alert := none, firstOut := false }, .applied)))

/-- Acknowledge, ACK-POINT and reset on a record (R15, R16, R17), SHELVE and UNSHELVE (R18, R19). -/
def Obligations.AcknowledgeResetAndShelveTables : Prop :=
  (∀ (k o : Nat) (r : PointRecord),
    (r.state = .alert → applyAcknowledge k r = ({ r with state := .acked, lastActor := some k }, .applied))
    ∧ (r.state = .returned → r.attrs.seq = .manualReset →
        applyAcknowledge k r = ({ r with state := .ringback, lastActor := some k }, .applied))
    ∧ (r.state = .returned → r.attrs.seq = .autoReset → applyAcknowledge k r =
        ({ r with state := .normal, alert := none, firstOut := false, lastActor := some k }, .applied))
    ∧ (r.state ≠ .alert → r.state ≠ .returned → applyAcknowledge k r = (r, .ignored))
    ∧ (r.state = .alert ∨ r.state = .returned → r.occurrence = o → applyAckPoint o k r = applyAcknowledge k r)
    ∧ (¬ ((r.state = .alert ∨ r.state = .returned) ∧ r.occurrence = o) → applyAckPoint o k r = (r, .stale))
    ∧ (r.state = .ringback → applyReset k r =
        ({ r with state := .normal, alert := none, firstOut := false, lastActor := some k }, .applied))
    ∧ (r.state ≠ .ringback → applyReset k r = (r, .ignored)))
  ∧ (∀ (k w p i : Nat) (own : Bool) (c : Nat) (s : State),
    (applyNotice k own ⟨c, k, i⟩ (.shelve w p) s).1
        = (recordEvent ⟨w, p⟩ .shelve ⟨c, k, i⟩ (some k) (applyShelve p) s).1
      ∧ (applyNotice k own ⟨c, k, i⟩ (.unshelve w p) s).1
        = (recordEvent ⟨w, p⟩ .unshelve ⟨c, k, i⟩ (some k) (applyUnshelve p ⟨c, k, i⟩) s).1)
  ∧ ∀ (p : Nat) (stamp : Stamp) (r : PointRecord),
    let successor := if r.occurrence < 255 then r.occurrence + 1 else 1
    (p = 16 → applyShelve p r = (r, .ignored) ∧ applyUnshelve p stamp r = (r, .ignored))
    ∧ (p ≤ 15 → r.shelved = true → applyShelve p r = (r, .duplicate))
    ∧ (p ≤ 15 → r.shelved = false → r.state = .normal → applyShelve p r = ({ r with shelved := true }, .applied))
    ∧ (p ≤ 15 → r.shelved = false → r.state ≠ .normal → applyShelve p r =
        ({ r with shelved := true, state := .normal, alert := none, firstOut := false }, .applied))
    ∧ (p ≤ 15 → r.shelved = false → applyUnshelve p stamp r = (r, .duplicate))
    ∧ (p ≤ 15 → r.shelved = true → r.active = false → applyUnshelve p stamp r = ({ r with shelved := false }, .applied))
    ∧ (p ≤ 15 → r.shelved = true → r.active = true → r.attrs.cls = .advisory →
        applyUnshelve p stamp r = ({ r with shelved := false, occurrence := successor }, .applied))
    ∧ (p ≤ 15 → r.shelved = true → r.active = true → r.attrs.cls ≠ .advisory → r.state = .normal →
        applyUnshelve p stamp r = ({ r with
          shelved := false, occurrence := successor, state := .alert, alert := some stamp, lastActor := none }, .applied))

/-- The History Log below 48 entries and at 48: the earliest sixteen are never dropped, the drop is counted and sets
HISTOVF; the window shows length and count, index i reads entry i, and clearing the flag leaves the count. -/
def Obligations.HistoryKeepsTheEarliestPart : Prop :=
  ∀ (s : State) (e : HistoryEntry),
    (s.history.entries.length ≤ 47 →
      recordHistory e s = { s with history := { s.history with entries := s.history.entries ++ [e] } })
    ∧ (s.history.entries.length = 48 →
      recordHistory e s = { s with
        history := { entries := s.history.entries.take 16 ++ s.history.entries.drop 17 ++ [e]
                     overflow := if s.history.overflow < 65535 then s.history.overflow + 1 else s.history.overflow }
        port := s.port.flagged .histovf })
    ∧ (s.history.entries.length ≤ 48 → (windowByte s 0x16).toNat = s.history.entries.length)
    ∧ (s.history.overflow ≤ 65535 →
        (windowByte s 0x17).toNat * 256 + (windowByte s 0x18).toNat = s.history.overflow)
    ∧ (∀ i e', s.history.entries[i]? = some e' → recordAt s .history i = historyRecord e')
    ∧ (∀ i, s.history.entries.length ≤ i → recordAt s .history i = [])
    ∧ ∀ offset v, ∃ t, exec (.eventsWrite offset v) s = .next t ∧ t.history = s.history

/-- The Alarm List. A point is inserted at its stamp place, in a list in stamp order. A point that leaves NORMAL is
listed while there is room; at 80 entries a SHUTDOWN point evicts the first acknowledged ALARM entry, and any other is
refused; the victim is the first entry of class ALARM in ACKED or RINGBACK, which in stamp order is the earliest;
OVERFLOW names the point that lost its place. A removal admits the unlisted point that R34 chooses. A listed point whose
alert stamp changes moves to its new place, one whose state alone changes keeps it; an unlisted point that reaches NORMAL
only loses its flag, and any other report leaves the list as it is. -/
def Obligations.AlarmListKeepsItsPlaces : Prop :=
  (∀ (s : State) (id : PointId) (es : List PointId),
    es.Pairwise (fun a b => Stamp.earlier (s.alertOf b) (s.alertOf a) = false) →
    ∃ front back, es = front ++ back ∧ insertByStamp s id es = front ++ id :: back
      ∧ (∀ x ∈ front, Stamp.earlier (s.alertOf id) (s.alertOf x) = false)
      ∧ ∀ x ∈ back, Stamp.earlier (s.alertOf id) (s.alertOf x) = true)
  ∧ (∀ (s : State) (id : PointId) (stamp : Stamp),
    let t := listEnter id stamp s
    let overflow (p : PointId) : HistoryEntry :=
      { stamp := stamp, kind := .overflow, station := p.owner, point := some p.point,
        occurrence := some (s.record p).occurrence, cls := some (s.record p).attrs.cls }
    (s.list.entries.length < 80 →
      t.list = { s.list with entries := insertByStamp s id s.list.entries, generation := (s.list.generation + 1) % 256 }
        ∧ t.hasEvent .listchg = true ∧ t.points = s.points ∧ t.history = s.history)
    ∧ (80 ≤ s.list.entries.length → (s.record id).attrs.cls = .shutdown → ∀ v, s.victim = some v →
        pointInRange v.owner v.point = true →
        t.list = { entries := insertByStamp s id (s.list.entries.erase v)
                   generation := (s.list.generation + 2) % 256, unlistedCount := s.list.unlistedCount + 1 }
        ∧ (t.record v).unlisted = true ∧ t.history = s.history.append (overflow v))
    ∧ (80 ≤ s.list.entries.length → (s.record id).attrs.cls ≠ .shutdown ∨ s.victim = none →
        pointInRange id.owner id.point = true →
        t.list = { s.list with unlistedCount := s.list.unlistedCount + 1 }
        ∧ (t.record id).unlisted = true ∧ t.history = s.history.append (overflow id)))
  ∧ (∀ (r : Report) (s : State), r.before.state ≠ .normal → r.after.state = .normal → r.id ∈ s.list.entries →
      s.list.entries.length ≤ 80 →
      let t := listFollow r s
      (s.list.unlistedCount = 0 → t.list =
        { s.list with entries := s.list.entries.erase r.id, generation := (s.list.generation + 1) % 256 })
      ∧ (0 < s.list.unlistedCount → ∀ u, s.admissible = some u → t.list =
        { entries := insertByStamp s u (s.list.entries.erase r.id)
          generation := (s.list.generation + 2) % 256, unlistedCount := s.list.unlistedCount - 1 }))
  ∧ (∀ (r : Report) (s : State), r.before.state ≠ .normal → r.after.state = .normal → r.id ∉ s.list.entries →
      pointInRange r.id.owner r.id.point = true →
      ((s.record r.id).unlisted = true → listFollow r s =
        { s.setRecord r.id { s.record r.id with unlisted := false } with
            list := { s.list with unlistedCount := s.list.unlistedCount - 1 } })
      ∧ ((s.record r.id).unlisted = false → listFollow r s = s))
  ∧ (∀ (r : Report) (s : State), (r.before.state = .normal ↔ r.after.state = .normal) →
      let moved (n : Nat) (entries : List PointId) : State :=
        { s with
            list := { s.list with entries := entries, generation := (s.list.generation + n) % 256 }
            port := s.port.flagged .listchg }
      (r.before.state = .normal ∨ r.id ∉ s.list.entries → listFollow r s = s)
      ∧ (r.before.state ≠ .normal → r.id ∈ s.list.entries →
        (r.before.alert ≠ r.after.alert →
          listFollow r s = moved (if r.before.state = r.after.state then 1 else 2)
            (insertByStamp s r.id (s.list.entries.erase r.id)))
        ∧ (r.before.alert = r.after.alert → r.before.state ≠ r.after.state → listFollow r s = moved 1 s.list.entries)
        ∧ (r.before.alert = r.after.alert → r.before.state = r.after.state → listFollow r s = s)))
  ∧ (∀ s : State,
    let mayGo (id : PointId) : Prop := (s.record id).attrs.cls = .alarm
      ∧ ((s.record id).state = .acked ∨ (s.record id).state = .ringback)
    (s.victim = none ↔ ∀ id ∈ s.list.entries, ¬ mayGo id)
    ∧ ∀ v, s.victim = some v →
        (mayGo v ∧ ∃ front back, s.list.entries = front ++ v :: back ∧ ∀ x ∈ front, ¬ mayGo x)
        ∧ (s.list.entries.Pairwise (fun a b => Stamp.earlier (s.alertOf b) (s.alertOf a) = false) →
            ∀ x ∈ s.list.entries, mayGo x → Stamp.earlier (s.alertOf x) (s.alertOf v) = false))
  ∧ ∀ (s : State) (u : PointId), s.admissible = some u →
      (s.record u).unlisted = true
      ∧ ∀ x ∈ allPoints, (s.record x).unlisted = true →
          ((s.record x).attrs.cls = .shutdown → (s.record u).attrs.cls = .shutdown)
          ∧ ((s.record x).attrs.cls = (s.record u).attrs.cls → Stamp.earlier (s.alertOf x) (s.alertOf u) = false)

/-- First-out groups and zone summaries on a report: a raise in an ARMED group marks the point, in a HELD one or in group
0 it marks nothing; a replacement whose record keeps the flag claims its group, the earlier stamp against another holder;
a holder whose flag is clear re-arms the group; the counts of the owner's zone follow the state. -/
def Obligations.GroupsAndZonesFollowReports : Prop :=
  ∀ (r : Report) (s : State),
    (marksFirstOut r = true → ∀ g, r.after.attrs.group = g → 1 ≤ g → g ≤ 8 →
      (s.holder g = none → pointInRange r.id.owner r.id.point = true →
        (firstOutMark r s).holder g = some r.id ∧ ((firstOutMark r s).record r.id).firstOut = true)
      ∧ (∀ q, s.holder g = some q → firstOutMark r s = s))
    ∧ (marksFirstOut r = true ↔ ((r.event = .raise ∧ r.outcome = .applied) ∨ (r.event = .unshelve ∧ r.outcome = .applied)
        ∨ r.event = .linkLostRaise) ∧ r.before.state ≠ .alert ∧ r.after.state = .alert)
    ∧ (marksFirstOut r = false ∨ r.after.attrs.group = 0 → firstOutMark r s = s)
    ∧ (r.event ≠ .replace ∨ (s.record r.id).firstOut = false → firstOutReplace r s = s)
    ∧ (r.event = .replace → (s.record r.id).firstOut = true → ∀ g, (s.record r.id).attrs.group = g → 1 ≤ g → g ≤ 8 →
      let u := firstOutRelease r.id s
      let t := firstOutReplace r s
      (u.holder g = none → t.holder g = some r.id ∧ t.points = u.points)
      ∧ (u.holder g = some r.id → t = u)
      ∧ ∀ q, u.holder g = some q → q ≠ r.id →
        (Stamp.earlier (s.alertOf r.id) (s.alertOf q) = true →
          t.holder g = some r.id ∧ (t.record r.id).firstOut = true ∧ (t.record q).firstOut = false)
        ∧ (Stamp.earlier (s.alertOf r.id) (s.alertOf q) = false →
          t.holder g = some q ∧ (t.record r.id).firstOut = false ∧ t.record q = s.record q))
    ∧ (∀ g, 1 ≤ g → g ≤ 8 → s.holder g = some r.id →
      ((s.record r.id).firstOut = false ∨ (s.record r.id).attrs.group ≠ g → (firstOutRelease r.id s).holder g = none)
      ∧ ((s.record r.id).firstOut = true → (s.record r.id).attrs.group = g → (firstOutRelease r.id s).holder g = some r.id))
    ∧ (s.zoneOf r.id.owner = none → zoneFollow r s = s)
    ∧ ∀ z, s.zoneOf r.id.owner = some z → 1 ≤ z → z ≤ 8 →
      let count (inside : PointState → Prop) (n m : Nat) : Prop :=
        (inside r.before.state → ¬ inside r.after.state → m = n - 1)
        ∧ (¬ inside r.before.state → inside r.after.state → m = n + 1)
        ∧ ((inside r.before.state ↔ inside r.after.state) → m = n)
      count (fun st => st = .alert ∨ st = .returned) (s.zone z).alerting ((zoneFollow r s).zone z).alerting
      ∧ count (fun st => st = .acked ∨ st = .ringback) (s.zone z).standing ((zoneFollow r s).zone z).standing
      ∧ ((zoneFollow r s).zone z).lost = (s.zone z).lost
      ∧ ∀ y, 1 ≤ y → y ≤ 8 → y ≠ z → (zoneFollow r s).zone y = s.zone y

/-- What a record event does beside its change of the record. The changed record stands at its place; in any record only the
first-out and the unlisted flag can change beside it. The history entry of its kind is appended for a point in view, and the
STALE-ACK of a stale ACK-POINT in any view, before the OVERFLOW of a point that lost its place. NEWALERT is set when a point
in view enters ALERT. The announced condition of an own field point follows RAISE, CLEAR and own initialisation. A demand
count that was the number of trip causes still is. -/
def Obligations.RecordEventsAreReported : Prop :=
  ∀ (s : State) (id : PointId) (event : RecordEvent) (stamp : Stamp) (actor : Option Nat)
    (change : PointRecord → PointRecord × ReportOutcome), pointInRange id.owner id.point = true →
    let old := s.record id
    let new := (change old).1
    let outcome := (change old).2
    let t := (recordEvent id event stamp actor change s).1
    let entry (kind : HistoryKind) (cls : Option PointClass) : HistoryEntry :=
      { stamp := stamp, kind := kind, station := id.owner, point := some id.point, occurrence := some new.occurrence,
        actor := actor, cls := cls }
    let logged (h : History) : Prop :=
      t.history = h ∨ ∃ q : PointId, t.history = h.append
        { stamp := stamp, kind := .overflow, station := q.owner, point := some q.point,
          occurrence := some (t.record q).occurrence, cls := some (t.record q).attrs.cls }
    let told (kind : HistoryKind) (cls : Option PointClass) : Prop :=
      logged (if s.inView id then s.history.append (entry kind cls) else s.history)
    (recordEvent id event stamp actor change s).2 = outcome
    ∧ t.record id = { new with firstOut := (t.record id).firstOut, unlisted := (t.record id).unlisted }
    ∧ (∀ q, q ≠ id → t.record q =
        { s.record q with firstOut := (t.record q).firstOut, unlisted := (t.record q).unlisted })
    ∧ (outcome = .applied →
      (event = .raise → told .raise (some new.attrs.cls)) ∧ (event = .clear → told .clear (some new.attrs.cls))
      ∧ (∀ o, event = .ackPoint o → told .ackPoint none)
      ∧ (event = .shelve → told .shelve (some new.attrs.cls))
      ∧ (event = .unshelve → told .unshelve (some new.attrs.cls)))
    ∧ (∀ o, event = .ackPoint o → outcome = .stale → logged (s.history.append
        { stamp := stamp, kind := .staleAck, station := id.owner, point := some id.point, occurrence := some o,
          actor := actor }))
    ∧ ((outcome ≠ .applied ∧ ∀ o, event = .ackPoint o → outcome ≠ .stale)
        ∨ ((∀ o, event ≠ .ackPoint o) ∧ event ∉ [.raise, .clear, .shelve, .unshelve]) → logged s.history)
    ∧ t.hasEvent .newalert =
        (s.hasEvent .newalert || (old.state ≠ .alert && new.state = .alert && s.inView id))
    ∧ (id.owner = s.own ∧ id.point ≤ 15 ∧ event ∈ [.raise, .clear, .initialise] →
        t.scanner = (s.modifyInput id.point (fun i => { i with announced := new.active })).scanner)
    ∧ (id.owner ≠ s.own ∨ id.point = 16 ∨ event ∉ [.raise, .clear, .initialise] → t.scanner = s.scanner)
    ∧ (s.groups.demand = s.causes.length → t.groups.demand = t.causes.length)

/-! ## Frames and their bytes -/

/-- A MARK, a SLOT frame with every notice it can carry, or an OWNED LIST that a station sends is read back by every
receiver as the frame it was. -/
def Obligations.FramesRoundTrip : Prop :=
  (∀ (slots : Nat) (f : MarkFrame), slots ≤ 24 → markFits slots f = true → judge slots (Sending.mark f).bytes = .mark f)
  ∧ (∀ (slots : Nat) (f : SlotFrame), slots ≤ 24 → slotFits slots f = true → judge slots (Sending.slot f).bytes = .slot f)
  ∧ ∀ (slots : Nat) (f : ListFrame), slots ≤ 24 → listFits slots f = true → judge slots (Sending.list f).bytes = .list f

/-! ## What every step keeps -/

/-- The reset state is within every range and its modes agree. -/
def Obligations.ResetIsBoundedAndConsistent : Prop := State.reset.Bounded ∧ State.reset.Consistent

/-- Every step keeps the ranges of `State.Bounded`: the log and its overflow count, the saturating counters and the
chatter counts, the generation count, the flash clock, the button and debounce counts, the attempts of a load, the
selector's index and the ages of queued notices, and the trip latch over the trip demand. The counts of collisions in a
row, the unlisted count and the counts of the zone summaries are not among them. -/
def Obligations.StepKeepsTheRanges : Prop :=
  ∀ s t : State, s.Bounded → step s = .next t → t.Bounded

/-- Every step keeps the queue within twelve places and empty where nothing is sent, the image and the link state, the
held notices and the modal state in agreement. -/
def Obligations.StepKeepsTheModes : Prop :=
  ∀ s t : State, s.Consistent → step s = .next t → t.Consistent
end

