-- ==== Sys2Proof/Laws/State.lean ====
section
/-! SUPPORT. One lemma for each field under each named update of State, true by definition, so that no proof unfolds a
record update. -/

namespace Sys2Proof.Machine

open Sys2Proof

variable (s : State)

/-! State.mapLink -/

@[simp] theorem State.mapLink_pending (f : Link → Link) : (s.mapLink f).pending = s.pending := rfl
@[simp] theorem State.mapLink_choices (f : Link → Link) : (s.mapLink f).choices = s.choices := rfl
@[simp] theorem State.mapLink_supply (f : Link → Link) : (s.mapLink f).supply = s.supply := rfl
@[simp] theorem State.mapLink_powerHold (f : Link → Link) : (s.mapLink f).powerHold = s.powerHold := rfl
@[simp] theorem State.mapLink_resetnLow (f : Link → Link) : (s.mapLink f).resetnLow = s.resetnLow := rfl
@[simp] theorem State.mapLink_points (f : Link → Link) : (s.mapLink f).points = s.points := rfl
@[simp] theorem State.mapLink_list (f : Link → Link) : (s.mapLink f).list = s.list := rfl
@[simp] theorem State.mapLink_groups (f : Link → Link) : (s.mapLink f).groups = s.groups := rfl
@[simp] theorem State.mapLink_notices (f : Link → Link) : (s.mapLink f).notices = s.notices := rfl
@[simp] theorem State.mapLink_link (f : Link → Link) : (s.mapLink f).link = f s.link := rfl
@[simp] theorem State.mapLink_directory (f : Link → Link) : (s.mapLink f).directory = s.directory := rfl
@[simp] theorem State.mapLink_agreement (f : Link → Link) : (s.mapLink f).agreement = s.agreement := rfl
@[simp] theorem State.mapLink_scanner (f : Link → Link) : (s.mapLink f).scanner = s.scanner := rfl
@[simp] theorem State.mapLink_panel (f : Link → Link) : (s.mapLink f).panel = s.panel := rfl
@[simp] theorem State.mapLink_history (f : Link → Link) : (s.mapLink f).history = s.history := rfl
@[simp] theorem State.mapLink_port (f : Link → Link) : (s.mapLink f).port = s.port := rfl
@[simp] theorem State.mapLink_loader (f : Link → Link) : (s.mapLink f).loader = s.loader := rfl

/-! State.mapPort -/

@[simp] theorem State.mapPort_pending (f : Port → Port) : (s.mapPort f).pending = s.pending := rfl
@[simp] theorem State.mapPort_choices (f : Port → Port) : (s.mapPort f).choices = s.choices := rfl
@[simp] theorem State.mapPort_supply (f : Port → Port) : (s.mapPort f).supply = s.supply := rfl
@[simp] theorem State.mapPort_powerHold (f : Port → Port) : (s.mapPort f).powerHold = s.powerHold := rfl
@[simp] theorem State.mapPort_resetnLow (f : Port → Port) : (s.mapPort f).resetnLow = s.resetnLow := rfl
@[simp] theorem State.mapPort_points (f : Port → Port) : (s.mapPort f).points = s.points := rfl
@[simp] theorem State.mapPort_list (f : Port → Port) : (s.mapPort f).list = s.list := rfl
@[simp] theorem State.mapPort_groups (f : Port → Port) : (s.mapPort f).groups = s.groups := rfl
@[simp] theorem State.mapPort_notices (f : Port → Port) : (s.mapPort f).notices = s.notices := rfl
@[simp] theorem State.mapPort_link (f : Port → Port) : (s.mapPort f).link = s.link := rfl
@[simp] theorem State.mapPort_directory (f : Port → Port) : (s.mapPort f).directory = s.directory := rfl
@[simp] theorem State.mapPort_agreement (f : Port → Port) : (s.mapPort f).agreement = s.agreement := rfl
@[simp] theorem State.mapPort_scanner (f : Port → Port) : (s.mapPort f).scanner = s.scanner := rfl
@[simp] theorem State.mapPort_panel (f : Port → Port) : (s.mapPort f).panel = s.panel := rfl
@[simp] theorem State.mapPort_history (f : Port → Port) : (s.mapPort f).history = s.history := rfl
@[simp] theorem State.mapPort_port (f : Port → Port) : (s.mapPort f).port = f s.port := rfl
@[simp] theorem State.mapPort_loader (f : Port → Port) : (s.mapPort f).loader = s.loader := rfl

/-! State.mapPanel -/

@[simp] theorem State.mapPanel_pending (f : Panel → Panel) : (s.mapPanel f).pending = s.pending := rfl
@[simp] theorem State.mapPanel_choices (f : Panel → Panel) : (s.mapPanel f).choices = s.choices := rfl
@[simp] theorem State.mapPanel_supply (f : Panel → Panel) : (s.mapPanel f).supply = s.supply := rfl
@[simp] theorem State.mapPanel_powerHold (f : Panel → Panel) : (s.mapPanel f).powerHold = s.powerHold := rfl
@[simp] theorem State.mapPanel_resetnLow (f : Panel → Panel) : (s.mapPanel f).resetnLow = s.resetnLow := rfl
@[simp] theorem State.mapPanel_points (f : Panel → Panel) : (s.mapPanel f).points = s.points := rfl
@[simp] theorem State.mapPanel_list (f : Panel → Panel) : (s.mapPanel f).list = s.list := rfl
@[simp] theorem State.mapPanel_groups (f : Panel → Panel) : (s.mapPanel f).groups = s.groups := rfl
@[simp] theorem State.mapPanel_notices (f : Panel → Panel) : (s.mapPanel f).notices = s.notices := rfl
@[simp] theorem State.mapPanel_link (f : Panel → Panel) : (s.mapPanel f).link = s.link := rfl
@[simp] theorem State.mapPanel_directory (f : Panel → Panel) : (s.mapPanel f).directory = s.directory := rfl
@[simp] theorem State.mapPanel_agreement (f : Panel → Panel) : (s.mapPanel f).agreement = s.agreement := rfl
@[simp] theorem State.mapPanel_scanner (f : Panel → Panel) : (s.mapPanel f).scanner = s.scanner := rfl
@[simp] theorem State.mapPanel_panel (f : Panel → Panel) : (s.mapPanel f).panel = f s.panel := rfl
@[simp] theorem State.mapPanel_history (f : Panel → Panel) : (s.mapPanel f).history = s.history := rfl
@[simp] theorem State.mapPanel_port (f : Panel → Panel) : (s.mapPanel f).port = s.port := rfl
@[simp] theorem State.mapPanel_loader (f : Panel → Panel) : (s.mapPanel f).loader = s.loader := rfl

/-! State.mapGroups -/

@[simp] theorem State.mapGroups_pending (f : GroupUnit → GroupUnit) : (s.mapGroups f).pending = s.pending := rfl
@[simp] theorem State.mapGroups_choices (f : GroupUnit → GroupUnit) : (s.mapGroups f).choices = s.choices := rfl
@[simp] theorem State.mapGroups_supply (f : GroupUnit → GroupUnit) : (s.mapGroups f).supply = s.supply := rfl
@[simp] theorem State.mapGroups_powerHold (f : GroupUnit → GroupUnit) : (s.mapGroups f).powerHold = s.powerHold := rfl
@[simp] theorem State.mapGroups_resetnLow (f : GroupUnit → GroupUnit) : (s.mapGroups f).resetnLow = s.resetnLow := rfl
@[simp] theorem State.mapGroups_points (f : GroupUnit → GroupUnit) : (s.mapGroups f).points = s.points := rfl
@[simp] theorem State.mapGroups_list (f : GroupUnit → GroupUnit) : (s.mapGroups f).list = s.list := rfl
@[simp] theorem State.mapGroups_groups (f : GroupUnit → GroupUnit) : (s.mapGroups f).groups = f s.groups := rfl
@[simp] theorem State.mapGroups_notices (f : GroupUnit → GroupUnit) : (s.mapGroups f).notices = s.notices := rfl
@[simp] theorem State.mapGroups_link (f : GroupUnit → GroupUnit) : (s.mapGroups f).link = s.link := rfl
@[simp] theorem State.mapGroups_directory (f : GroupUnit → GroupUnit) : (s.mapGroups f).directory = s.directory := rfl
@[simp] theorem State.mapGroups_agreement (f : GroupUnit → GroupUnit) : (s.mapGroups f).agreement = s.agreement := rfl
@[simp] theorem State.mapGroups_scanner (f : GroupUnit → GroupUnit) : (s.mapGroups f).scanner = s.scanner := rfl
@[simp] theorem State.mapGroups_panel (f : GroupUnit → GroupUnit) : (s.mapGroups f).panel = s.panel := rfl
@[simp] theorem State.mapGroups_history (f : GroupUnit → GroupUnit) : (s.mapGroups f).history = s.history := rfl
@[simp] theorem State.mapGroups_port (f : GroupUnit → GroupUnit) : (s.mapGroups f).port = s.port := rfl
@[simp] theorem State.mapGroups_loader (f : GroupUnit → GroupUnit) : (s.mapGroups f).loader = s.loader := rfl

/-! State.mapList -/

@[simp] theorem State.mapList_pending (f : AlarmList → AlarmList) : (s.mapList f).pending = s.pending := rfl
@[simp] theorem State.mapList_choices (f : AlarmList → AlarmList) : (s.mapList f).choices = s.choices := rfl
@[simp] theorem State.mapList_supply (f : AlarmList → AlarmList) : (s.mapList f).supply = s.supply := rfl
@[simp] theorem State.mapList_powerHold (f : AlarmList → AlarmList) : (s.mapList f).powerHold = s.powerHold := rfl
@[simp] theorem State.mapList_resetnLow (f : AlarmList → AlarmList) : (s.mapList f).resetnLow = s.resetnLow := rfl
@[simp] theorem State.mapList_points (f : AlarmList → AlarmList) : (s.mapList f).points = s.points := rfl
@[simp] theorem State.mapList_list (f : AlarmList → AlarmList) : (s.mapList f).list = f s.list := rfl
@[simp] theorem State.mapList_groups (f : AlarmList → AlarmList) : (s.mapList f).groups = s.groups := rfl
@[simp] theorem State.mapList_notices (f : AlarmList → AlarmList) : (s.mapList f).notices = s.notices := rfl
@[simp] theorem State.mapList_link (f : AlarmList → AlarmList) : (s.mapList f).link = s.link := rfl
@[simp] theorem State.mapList_directory (f : AlarmList → AlarmList) : (s.mapList f).directory = s.directory := rfl
@[simp] theorem State.mapList_agreement (f : AlarmList → AlarmList) : (s.mapList f).agreement = s.agreement := rfl
@[simp] theorem State.mapList_scanner (f : AlarmList → AlarmList) : (s.mapList f).scanner = s.scanner := rfl
@[simp] theorem State.mapList_panel (f : AlarmList → AlarmList) : (s.mapList f).panel = s.panel := rfl
@[simp] theorem State.mapList_history (f : AlarmList → AlarmList) : (s.mapList f).history = s.history := rfl
@[simp] theorem State.mapList_port (f : AlarmList → AlarmList) : (s.mapList f).port = s.port := rfl
@[simp] theorem State.mapList_loader (f : AlarmList → AlarmList) : (s.mapList f).loader = s.loader := rfl

/-! State.mapAgreement -/

@[simp] theorem State.mapAgreement_pending (f : Agreement → Agreement) : (s.mapAgreement f).pending = s.pending := rfl
@[simp] theorem State.mapAgreement_choices (f : Agreement → Agreement) : (s.mapAgreement f).choices = s.choices := rfl
@[simp] theorem State.mapAgreement_supply (f : Agreement → Agreement) : (s.mapAgreement f).supply = s.supply := rfl
@[simp] theorem State.mapAgreement_powerHold (f : Agreement → Agreement) : (s.mapAgreement f).powerHold = s.powerHold := rfl
@[simp] theorem State.mapAgreement_resetnLow (f : Agreement → Agreement) : (s.mapAgreement f).resetnLow = s.resetnLow := rfl
@[simp] theorem State.mapAgreement_points (f : Agreement → Agreement) : (s.mapAgreement f).points = s.points := rfl
@[simp] theorem State.mapAgreement_list (f : Agreement → Agreement) : (s.mapAgreement f).list = s.list := rfl
@[simp] theorem State.mapAgreement_groups (f : Agreement → Agreement) : (s.mapAgreement f).groups = s.groups := rfl
@[simp] theorem State.mapAgreement_notices (f : Agreement → Agreement) : (s.mapAgreement f).notices = s.notices := rfl
@[simp] theorem State.mapAgreement_link (f : Agreement → Agreement) : (s.mapAgreement f).link = s.link := rfl
@[simp] theorem State.mapAgreement_directory (f : Agreement → Agreement) : (s.mapAgreement f).directory = s.directory := rfl
@[simp] theorem State.mapAgreement_agreement (f : Agreement → Agreement) : (s.mapAgreement f).agreement = f s.agreement := rfl
@[simp] theorem State.mapAgreement_scanner (f : Agreement → Agreement) : (s.mapAgreement f).scanner = s.scanner := rfl
@[simp] theorem State.mapAgreement_panel (f : Agreement → Agreement) : (s.mapAgreement f).panel = s.panel := rfl
@[simp] theorem State.mapAgreement_history (f : Agreement → Agreement) : (s.mapAgreement f).history = s.history := rfl
@[simp] theorem State.mapAgreement_port (f : Agreement → Agreement) : (s.mapAgreement f).port = s.port := rfl
@[simp] theorem State.mapAgreement_loader (f : Agreement → Agreement) : (s.mapAgreement f).loader = s.loader := rfl

/-! State.mapLoader -/

@[simp] theorem State.mapLoader_pending (f : Loader → Loader) : (s.mapLoader f).pending = s.pending := rfl
@[simp] theorem State.mapLoader_choices (f : Loader → Loader) : (s.mapLoader f).choices = s.choices := rfl
@[simp] theorem State.mapLoader_supply (f : Loader → Loader) : (s.mapLoader f).supply = s.supply := rfl
@[simp] theorem State.mapLoader_powerHold (f : Loader → Loader) : (s.mapLoader f).powerHold = s.powerHold := rfl
@[simp] theorem State.mapLoader_resetnLow (f : Loader → Loader) : (s.mapLoader f).resetnLow = s.resetnLow := rfl
@[simp] theorem State.mapLoader_points (f : Loader → Loader) : (s.mapLoader f).points = s.points := rfl
@[simp] theorem State.mapLoader_list (f : Loader → Loader) : (s.mapLoader f).list = s.list := rfl
@[simp] theorem State.mapLoader_groups (f : Loader → Loader) : (s.mapLoader f).groups = s.groups := rfl
@[simp] theorem State.mapLoader_notices (f : Loader → Loader) : (s.mapLoader f).notices = s.notices := rfl
@[simp] theorem State.mapLoader_link (f : Loader → Loader) : (s.mapLoader f).link = s.link := rfl
@[simp] theorem State.mapLoader_directory (f : Loader → Loader) : (s.mapLoader f).directory = s.directory := rfl
@[simp] theorem State.mapLoader_agreement (f : Loader → Loader) : (s.mapLoader f).agreement = s.agreement := rfl
@[simp] theorem State.mapLoader_scanner (f : Loader → Loader) : (s.mapLoader f).scanner = s.scanner := rfl
@[simp] theorem State.mapLoader_panel (f : Loader → Loader) : (s.mapLoader f).panel = s.panel := rfl
@[simp] theorem State.mapLoader_history (f : Loader → Loader) : (s.mapLoader f).history = s.history := rfl
@[simp] theorem State.mapLoader_port (f : Loader → Loader) : (s.mapLoader f).port = s.port := rfl
@[simp] theorem State.mapLoader_loader (f : Loader → Loader) : (s.mapLoader f).loader = f s.loader := rfl

/-! State.setRecord -/

@[simp] theorem State.setRecord_pending (id : PointId) (r : PointRecord) : (s.setRecord id r).pending = s.pending := rfl
@[simp] theorem State.setRecord_choices (id : PointId) (r : PointRecord) : (s.setRecord id r).choices = s.choices := rfl
@[simp] theorem State.setRecord_supply (id : PointId) (r : PointRecord) : (s.setRecord id r).supply = s.supply := rfl
@[simp] theorem State.setRecord_powerHold (id : PointId) (r : PointRecord) : (s.setRecord id r).powerHold = s.powerHold := rfl
@[simp] theorem State.setRecord_resetnLow (id : PointId) (r : PointRecord) : (s.setRecord id r).resetnLow = s.resetnLow := rfl
@[simp] theorem State.setRecord_points (id : PointId) (r : PointRecord) : (s.setRecord id r).points = tableSet s.points (pointIndex id) r := rfl
@[simp] theorem State.setRecord_list (id : PointId) (r : PointRecord) : (s.setRecord id r).list = s.list := rfl
@[simp] theorem State.setRecord_groups (id : PointId) (r : PointRecord) : (s.setRecord id r).groups = s.groups := rfl
@[simp] theorem State.setRecord_notices (id : PointId) (r : PointRecord) : (s.setRecord id r).notices = s.notices := rfl
@[simp] theorem State.setRecord_link (id : PointId) (r : PointRecord) : (s.setRecord id r).link = s.link := rfl
@[simp] theorem State.setRecord_directory (id : PointId) (r : PointRecord) : (s.setRecord id r).directory = s.directory := rfl
@[simp] theorem State.setRecord_agreement (id : PointId) (r : PointRecord) : (s.setRecord id r).agreement = s.agreement := rfl
@[simp] theorem State.setRecord_scanner (id : PointId) (r : PointRecord) : (s.setRecord id r).scanner = s.scanner := rfl
@[simp] theorem State.setRecord_panel (id : PointId) (r : PointRecord) : (s.setRecord id r).panel = s.panel := rfl
@[simp] theorem State.setRecord_history (id : PointId) (r : PointRecord) : (s.setRecord id r).history = s.history := rfl
@[simp] theorem State.setRecord_port (id : PointId) (r : PointRecord) : (s.setRecord id r).port = s.port := rfl
@[simp] theorem State.setRecord_loader (id : PointId) (r : PointRecord) : (s.setRecord id r).loader = s.loader := rfl

/-! State.modifyRecord -/

@[simp] theorem State.modifyRecord_pending (id : PointId) (f : PointRecord → PointRecord) : (s.modifyRecord id f).pending = s.pending := rfl
@[simp] theorem State.modifyRecord_choices (id : PointId) (f : PointRecord → PointRecord) : (s.modifyRecord id f).choices = s.choices := rfl
@[simp] theorem State.modifyRecord_supply (id : PointId) (f : PointRecord → PointRecord) : (s.modifyRecord id f).supply = s.supply := rfl
@[simp] theorem State.modifyRecord_powerHold (id : PointId) (f : PointRecord → PointRecord) : (s.modifyRecord id f).powerHold = s.powerHold := rfl
@[simp] theorem State.modifyRecord_resetnLow (id : PointId) (f : PointRecord → PointRecord) : (s.modifyRecord id f).resetnLow = s.resetnLow := rfl
@[simp] theorem State.modifyRecord_points (id : PointId) (f : PointRecord → PointRecord) : (s.modifyRecord id f).points = tableSet s.points (pointIndex id) (f (s.record id)) := rfl
@[simp] theorem State.modifyRecord_list (id : PointId) (f : PointRecord → PointRecord) : (s.modifyRecord id f).list = s.list := rfl
@[simp] theorem State.modifyRecord_groups (id : PointId) (f : PointRecord → PointRecord) : (s.modifyRecord id f).groups = s.groups := rfl
@[simp] theorem State.modifyRecord_notices (id : PointId) (f : PointRecord → PointRecord) : (s.modifyRecord id f).notices = s.notices := rfl
@[simp] theorem State.modifyRecord_link (id : PointId) (f : PointRecord → PointRecord) : (s.modifyRecord id f).link = s.link := rfl
@[simp] theorem State.modifyRecord_directory (id : PointId) (f : PointRecord → PointRecord) : (s.modifyRecord id f).directory = s.directory := rfl
@[simp] theorem State.modifyRecord_agreement (id : PointId) (f : PointRecord → PointRecord) : (s.modifyRecord id f).agreement = s.agreement := rfl
@[simp] theorem State.modifyRecord_scanner (id : PointId) (f : PointRecord → PointRecord) : (s.modifyRecord id f).scanner = s.scanner := rfl
@[simp] theorem State.modifyRecord_panel (id : PointId) (f : PointRecord → PointRecord) : (s.modifyRecord id f).panel = s.panel := rfl
@[simp] theorem State.modifyRecord_history (id : PointId) (f : PointRecord → PointRecord) : (s.modifyRecord id f).history = s.history := rfl
@[simp] theorem State.modifyRecord_port (id : PointId) (f : PointRecord → PointRecord) : (s.modifyRecord id f).port = s.port := rfl
@[simp] theorem State.modifyRecord_loader (id : PointId) (f : PointRecord → PointRecord) : (s.modifyRecord id f).loader = s.loader := rfl

/-! State.modifyEntry -/

@[simp] theorem State.modifyEntry_pending (k : Nat) (f : DirEntry → DirEntry) : (s.modifyEntry k f).pending = s.pending := rfl
@[simp] theorem State.modifyEntry_choices (k : Nat) (f : DirEntry → DirEntry) : (s.modifyEntry k f).choices = s.choices := rfl
@[simp] theorem State.modifyEntry_supply (k : Nat) (f : DirEntry → DirEntry) : (s.modifyEntry k f).supply = s.supply := rfl
@[simp] theorem State.modifyEntry_powerHold (k : Nat) (f : DirEntry → DirEntry) : (s.modifyEntry k f).powerHold = s.powerHold := rfl
@[simp] theorem State.modifyEntry_resetnLow (k : Nat) (f : DirEntry → DirEntry) : (s.modifyEntry k f).resetnLow = s.resetnLow := rfl
@[simp] theorem State.modifyEntry_points (k : Nat) (f : DirEntry → DirEntry) : (s.modifyEntry k f).points = s.points := rfl
@[simp] theorem State.modifyEntry_list (k : Nat) (f : DirEntry → DirEntry) : (s.modifyEntry k f).list = s.list := rfl
@[simp] theorem State.modifyEntry_groups (k : Nat) (f : DirEntry → DirEntry) : (s.modifyEntry k f).groups = s.groups := rfl
@[simp] theorem State.modifyEntry_notices (k : Nat) (f : DirEntry → DirEntry) : (s.modifyEntry k f).notices = s.notices := rfl
@[simp] theorem State.modifyEntry_link (k : Nat) (f : DirEntry → DirEntry) : (s.modifyEntry k f).link = s.link := rfl
@[simp] theorem State.modifyEntry_directory (k : Nat) (f : DirEntry → DirEntry) : (s.modifyEntry k f).directory = tableSet s.directory (placeOf k 24) (f (s.entry k)) := rfl
@[simp] theorem State.modifyEntry_agreement (k : Nat) (f : DirEntry → DirEntry) : (s.modifyEntry k f).agreement = s.agreement := rfl
@[simp] theorem State.modifyEntry_scanner (k : Nat) (f : DirEntry → DirEntry) : (s.modifyEntry k f).scanner = s.scanner := rfl
@[simp] theorem State.modifyEntry_panel (k : Nat) (f : DirEntry → DirEntry) : (s.modifyEntry k f).panel = s.panel := rfl
@[simp] theorem State.modifyEntry_history (k : Nat) (f : DirEntry → DirEntry) : (s.modifyEntry k f).history = s.history := rfl
@[simp] theorem State.modifyEntry_port (k : Nat) (f : DirEntry → DirEntry) : (s.modifyEntry k f).port = s.port := rfl
@[simp] theorem State.modifyEntry_loader (k : Nat) (f : DirEntry → DirEntry) : (s.modifyEntry k f).loader = s.loader := rfl

/-! State.modifyInput -/

@[simp] theorem State.modifyInput_pending (p : Nat) (f : InputState → InputState) : (s.modifyInput p f).pending = s.pending := rfl
@[simp] theorem State.modifyInput_choices (p : Nat) (f : InputState → InputState) : (s.modifyInput p f).choices = s.choices := rfl
@[simp] theorem State.modifyInput_supply (p : Nat) (f : InputState → InputState) : (s.modifyInput p f).supply = s.supply := rfl
@[simp] theorem State.modifyInput_powerHold (p : Nat) (f : InputState → InputState) : (s.modifyInput p f).powerHold = s.powerHold := rfl
@[simp] theorem State.modifyInput_resetnLow (p : Nat) (f : InputState → InputState) : (s.modifyInput p f).resetnLow = s.resetnLow := rfl
@[simp] theorem State.modifyInput_points (p : Nat) (f : InputState → InputState) : (s.modifyInput p f).points = s.points := rfl
@[simp] theorem State.modifyInput_list (p : Nat) (f : InputState → InputState) : (s.modifyInput p f).list = s.list := rfl
@[simp] theorem State.modifyInput_groups (p : Nat) (f : InputState → InputState) : (s.modifyInput p f).groups = s.groups := rfl
@[simp] theorem State.modifyInput_notices (p : Nat) (f : InputState → InputState) : (s.modifyInput p f).notices = s.notices := rfl
@[simp] theorem State.modifyInput_link (p : Nat) (f : InputState → InputState) : (s.modifyInput p f).link = s.link := rfl
@[simp] theorem State.modifyInput_directory (p : Nat) (f : InputState → InputState) : (s.modifyInput p f).directory = s.directory := rfl
@[simp] theorem State.modifyInput_agreement (p : Nat) (f : InputState → InputState) : (s.modifyInput p f).agreement = s.agreement := rfl
@[simp] theorem State.modifyInput_scanner (p : Nat) (f : InputState → InputState) : (s.modifyInput p f).scanner = tableSet s.scanner p (f (s.input p)) := rfl
@[simp] theorem State.modifyInput_panel (p : Nat) (f : InputState → InputState) : (s.modifyInput p f).panel = s.panel := rfl
@[simp] theorem State.modifyInput_history (p : Nat) (f : InputState → InputState) : (s.modifyInput p f).history = s.history := rfl
@[simp] theorem State.modifyInput_port (p : Nat) (f : InputState → InputState) : (s.modifyInput p f).port = s.port := rfl
@[simp] theorem State.modifyInput_loader (p : Nat) (f : InputState → InputState) : (s.modifyInput p f).loader = s.loader := rfl

/-! Transactions of the supervisory port (R163, R164) -/

@[simp] theorem setTransaction_eq (t : Transaction) : setTransaction t s = s.mapPort (fun p => { p with transaction := t }) := rfl

theorem serves_up {s : State} (h : s.serves = true) : s.up = true := (Bool.and_eq_true _ _ ▸ h).1

/-- A byte that the port shifts in is acted on, its transaction going on (R164). -/
theorem serve_serves {s : State} (after : Transaction) (f : State → State) (h : s.serves = true) :
    serve after f s = f (setTransaction after s) := by simp only [serve, h, if_true]

/-- A byte that the port does not shift in has no effect (R163, R186). -/
theorem serve_ignored {s : State} (after : Transaction) (f : State → State) (h : s.serves = false) :
    serve after f s = s := by simp only [serve, h, Bool.false_eq_true, if_false]

/-- A row that is such a byte. -/
theorem whenServed_serves {s : State} (after : Transaction) (f : State → State) (h : s.serves = true) :
    whenServed after s f = .next (f (setTransaction after s)) := by rw [whenServed, serve_serves after f h]

/-- A row whose byte the port does not shift in. -/
theorem whenServed_ignored {s : State} (after : Transaction) (f : State → State) (h : s.serves = false) :
    whenServed after s f = .next s := by rw [whenServed, serve_ignored after f h]

end Sys2Proof.Machine
end

