-- ==== Sys2Proof/Laws/Ops.lean ====
section
/-! SUPPORT. What the shared operations do, each said once: tables, counters, free orders, event flags, the History Log,
completion, link state changes and offers. -/

namespace Sys2Proof.Machine

open Sys2Proof

/-! Tables -/

theorem tableGet_tableSet {α : Type} {n : Nat} (v : Vector α n) (i j : Nat) (x d : α) :
    tableGet (tableSet v i x) j d = if i = j ∧ i < n then x else tableGet v j d := by
  unfold tableGet tableSet
  by_cases hi : i < n
  · simp only [hi, dif_pos, and_true]
    by_cases hj : j < n
    · simp only [hj, dif_pos, Vector.getElem_set]
    · have hij : i ≠ j := fun h => hj (h ▸ hi)
      simp only [hj, hij, dif_neg, not_false_eq_true, if_false]
  · simp only [hi, dif_neg, not_false_eq_true, and_false, if_false]

theorem tableGet_tableSet_same {α : Type} {n : Nat} (v : Vector α n) (i : Nat) (x d : α) (h : i < n) :
    tableGet (tableSet v i x) i d = x := by simp [tableGet_tableSet, h]

theorem tableGet_tableSet_other {α : Type} {n : Nat} (v : Vector α n) (i j : Nat) (x d : α) (h : i ≠ j) :
    tableGet (tableSet v i x) j d = tableGet v j d := by simp [tableGet_tableSet, h]

/-- A property of every place of a table is kept by a set that has it. -/
theorem tableGet_tableSet_of {α : Type} {n : Nat} {p : α → Prop} (v : Vector α n) (i j : Nat) (x d : α) (hx : p x)
    (h : p (tableGet v j d)) : p (tableGet (tableSet v i x) j d) := by
  rw [tableGet_tableSet]; split <;> assumption

/-! Counters -/

theorem saturate_le {limit n : Nat} (h : n ≤ limit) : saturate limit n ≤ limit := by
  unfold saturate; split <;> omega

theorem nextOccurrence_range (n : Nat) : 1 ≤ nextOccurrence n ∧ nextOccurrence n ≤ 255 := by
  unfold nextOccurrence; split <;> omega

theorem nextCycle_range (c : Nat) : 1 ≤ nextCycle c ∧ nextCycle c ≤ 2 ^ 40 - 1 := by
  unfold nextCycle; simp only [Config.lastCycle]; split <;> omega

/-! Free orders -/

theorem insertAtPlace_perm {α : Type} (n : Nat) (x : α) (xs : List α) : (insertAtPlace n x xs).Perm (x :: xs) := by
  induction n generalizing xs with
  | zero => exact List.Perm.refl _
  | succ n ih =>
    cases xs with
    | nil => exact List.Perm.refl _
    | cons y ys => exact ((ih ys).cons y).trans (List.Perm.swap x y ys)

/-- A free order is an order of the same things. -/
theorem permute_perm {α : Type} (n : Nat) (xs : List α) : (permute n xs).Perm xs := by
  induction xs generalizing n with
  | nil => exact List.Perm.refl _
  | cons x xs ih => exact (insertAtPlace_perm _ x _).trans ((ih _).cons x)

theorem inTurn_keeps {P : State → Prop} (ops : List (State → State)) (h : ∀ f ∈ ops, ∀ s, P s → P (f s)) (s : State)
    (hs : P s) : P (inTurn ops s) := by
  induction ops generalizing s with
  | nil => exact hs
  | cons f fs ih => exact ih (fun g hg => h g (List.mem_cons_of_mem _ hg)) _ (h f List.mem_cons_self s hs)

/-- What every operation keeps, every order of them keeps. -/
theorem inEitherOrder_keeps {P : State → Prop} (hc : ∀ s n, P s → P { s with choices := n })
    (ops : List (State → State)) (h : ∀ f ∈ ops, ∀ s, P s → P (f s)) (s : State) (hs : P s) :
    P (inEitherOrder ops s) := by
  unfold inEitherOrder
  split
  · exact inTurn_keeps ops h s hs
  · exact inTurn_keeps _ (fun f hf => h f ((permute_perm _ ops).mem_iff.mp hf)) _ (hc s _ hs)

/-- Two operations in a free order: one of the two orders, after the choice is counted. -/
theorem inEitherOrder_two (f g : State → State) (s : State) :
    inEitherOrder [f, g] s = g (f { s with choices := s.choices + 1 })
      ∨ inEitherOrder [f, g] s = f (g { s with choices := s.choices + 1 }) := by
  have h : permute (Config.freeOrder s.choices) [f, g] = [f, g] ∨ permute (Config.freeOrder s.choices) [f, g] = [g, f] := by
    simp only [permute, List.length_cons, List.length_nil]
    generalize Config.freeOrder s.choices % (0 + 1 + 1) = m
    generalize Config.freeOrder s.choices / (0 + 1 + 1) % (0 + 1) = n
    cases m with
    | zero => left; cases n <;> rfl
    | succ m => right; cases n <;> cases m <;> rfl
  unfold inEitherOrder
  rw [if_neg (by simp)]
  rcases h with h | h <;> rw [h]
  · exact .inl rfl
  · exact .inr rfl

/-- What each step of a walk keeps, the walk keeps. -/
theorem foldl_keeps {α : Type} {P : State → Prop} (f : State → α → State) (h : ∀ s x, P s → P (f s x)) (xs : List α)
    (s : State) (hs : P s) : P (xs.foldl f s) := by
  induction xs generalizing s with
  | nil => exact hs
  | cons x xs ih => exact ih _ (h s x hs)

/-! Event flags -/

theorem hasEvent_setEvent_same (e : Event) (s : State) : (setEvent e s).hasEvent e = true := by
  cases e <;> simp [setEvent, State.hasEvent, Event.bit]

/-- A flag already set stays set (R167). -/
theorem hasEvent_setEvent_of (e e' : Event) (s : State) (h : s.hasEvent e = true) : (setEvent e' s).hasEvent e = true := by
  simp only [setEvent, State.hasEvent, State.mapPort_port, BitVec.getLsbD_or, Bool.or_eq_true] at *
  exact Or.inl h

/-! The History Log (R160) -/

theorem History.append_length (h : History) (e : HistoryEntry) (hl : h.entries.length ≤ 48) :
    (h.append e).entries.length ≤ 48 := by
  unfold History.append
  simp only [Config.logPlaces, Config.earliestPart]
  split
  · simp only [List.length_append, List.length_singleton]; omega
  · simp only [List.length_append, List.length_singleton, List.length_eraseIdx]; split <;> omega

theorem History.append_overflow (h : History) (e : HistoryEntry) (ho : h.overflow ≤ 65535) :
    (h.append e).overflow ≤ 65535 := by
  unfold History.append
  split
  · exact ho
  · exact saturate_le ho

/-- The earliest part is never dropped by appending (R160). -/
theorem History.append_earliest (h : History) (e : HistoryEntry) (hl : 16 ≤ h.entries.length) :
    (h.append e).entries.take 16 = h.entries.take 16 := by
  unfold History.append
  simp only [Config.logPlaces, Config.earliestPart]
  split
  · rw [List.take_append_of_le_length hl]
  · rw [List.take_append_of_le_length (by rw [List.length_eraseIdx]; split <;> omega)]
    rw [List.eraseIdx_eq_take_drop_succ, List.take_append_of_le_length (by simp; omega), List.take_take]
    simp

/-- The entry appended is the last one. -/
theorem History.append_last (h : History) (e : HistoryEntry) : (h.append e).entries.getLast? = some e := by
  unfold History.append; split <;> simp

/-- Recording writes the log, and HISTOVF at a drop; nothing else. -/
theorem recordHistory_eq (e : HistoryEntry) (s : State) :
    recordHistory e s = { s with
      history := s.history.append e
      port := { s.port with
        events := if s.history.entries.length < 48 then s.port.events else s.port.events ||| (1 : BitVec 12) <<< 9 } } := by
  unfold recordHistory
  simp only [Config.logPlaces]
  split <;> rfl

/-! Completion (R173) -/

/-- A completion writes the mailbox and sets CMDDONE; nothing else. -/
theorem complete_eq (r : CommandResult) (out : List Byte) (s : State) :
    complete r out s = { s with
      port := { s.port with
        running := none, result := r, data := completionData out s.port.overrun, events := s.port.events ||| 1 } } := rfl

/-! Link state changes (R106) -/

theorem setLinkState_state (new : LinkState) (s : State) : (setLinkState new s).link.state = new := by
  unfold setLinkState
  split
  · assumption
  · simp only; split <;> rfl

/-- A change sets LINKCHG. -/
theorem setLinkState_linkchg (new : LinkState) (s : State) (h : s.link.state ≠ new) :
    (setLinkState new s).hasEvent .linkchg = true := by
  unfold setLinkState
  simp only [if_neg h]
  have hs := hasEvent_setEvent_same .linkchg (s.mapLink (fun l => { l with state := new }))
  split
  · exact hs
  · exact hs

/-! Offers (R66, R67) -/

/-- Everything an offer can do: decline by link state, decline for fullness with QFULL, or append one notice. -/
theorem offer_cases (n : Notice) (source : Source) (s : State) :
    (accepts s.link.state n = false ∧ offer n source s = (s, false))
      ∨ (s.queueFull = true ∧ offer n source s = (setEvent .qfull s, false))
      ∨ (accepts s.link.state n = true ∧ s.queueFull = false ∧ offer n source s = (appendNotice n source s, true)) := by
  unfold offer
  cases ha : accepts s.link.state n <;> cases hf : s.queueFull <;> simp

/-- An offer keeps the queue within its twelve places. -/
theorem offer_length (n : Notice) (source : Source) (s : State) (h : s.notices.length ≤ 12) :
    (offer n source s).1.notices.length ≤ 12 := by
  rcases offer_cases n source s with ⟨_, e⟩ | ⟨_, e⟩ | ⟨_, hf, e⟩ <;> rw [e]
  · exact h
  · exact h
  · simp only [State.queueFull, Config.queuePlaces, decide_eq_false_iff_not] at hf
    simp only [appendNotice, List.length_append, List.length_singleton]
    omega

/-! Steps of a part that is up -/

theorem whenUp_of_up {s : State} (f : State → State) (h : s.up = true) : whenUp s f = .next (f s) := by
  simp [whenUp, h]

theorem whenUp_of_held {s : State} (f : State → State) (h : s.up = false) : whenUp s f = .next s := by
  simp [whenUp, h]

end Sys2Proof.Machine
end

