-- ==== Sys2Proof/Laws/Inside.lean ====
section
/-! SUPPORT. What falls inside the application of a frame, said once: what each part of an application and each action inside
it keeps, the application keeps. -/

namespace Sys2Proof.Machine

open Sys2Proof

/-- What falls inside keeps P. -/
def KeptInside (P : State → Prop) (d : During) : Prop := ∀ m s, P s → P (d m s)

variable {P : State → Prop} {d : During} {s : State}

theorem keptInside_nothing : KeptInside P nothingInside := fun _ _ h => h

theorem nothingInside_eq (m : Moment) (s : State) : nothingInside m s = s := rfl

@[simp] theorem fallInside_nil : fallInside [] = nothingInside := rfl

/-- Where no action has this moment, nothing falls there. -/
theorem fallInside_none (xs : List Inside) (m : Moment) (s : State) (h : ∀ x ∈ xs, x.moment ≠ m) :
    fallInside xs m s = s := by
  have e : xs.filter (fun x => x.moment = m) = [] := List.filter_eq_nil_iff.mpr (fun x hx => by simp [h x hx])
  simp [fallInside, e, inTurn]

/-- What each action keeps, the actions inside a frame keep. -/
theorem keptInside_fallInside (h : ∀ a s, P s → P (actInside a s)) (xs : List Inside) : KeptInside P (fallInside xs) := by
  refine fun m s hs => inTurn_keeps _ (fun f hf s hs => ?_) s hs
  obtain ⟨x, _, rfl⟩ := List.mem_map.mp hf
  exact h _ _ hs

/-- A walk (R41, R42). -/
theorem recordEvents_keeps (hd : KeptInside P d) (n : Nat) (e : RecordEvent) (t : Stamp) (a : Option Nat)
    (c : PointRecord → PointRecord × ReportOutcome) (hr : ∀ id s, P s → P (recordEvent id e t a c s).1)
    (i : Nat) (ids : List PointId) (h : P s) : P (recordEvents d n e t a c i ids s).1 := by
  induction ids generalizing i s with
  | nil => exact h
  | cons id ids ih => exact ih _ (hd _ _ (hr id _ h))

/-- The notices of a frame (R97 stage 3). -/
theorem applyNotices_keeps (hd : KeptInside P d) (k c : Nat) (o : Bool) (hc : ∀ t s, P s → P (setCurrent t s))
    (hn : ∀ t n s, P s → P (applyNotice k o t n s d).1) (ha : ∀ t r s, P s → P (completeApplied t r s))
    (i : Nat) (ns : List (Option Notice × Bool)) (h : P s) : P (applyNotices k c o d i ns s) := by
  induction ns generalizing i s with
  | nil => exact h
  | cons n ns ih =>
    obtain ⟨n, mark⟩ := n
    cases n with
    | none => exact ih _ (hd _ _ h)
    | some n =>
      refine ih _ (hd _ _ ?_)
      have h1 := hn ⟨c, k, i⟩ n _ (hc ⟨c, k, i⟩ _ h)
      split
      · exact ha _ _ _ h1
      · exact h1

/-- The replacements of a list (R135). -/
theorem applyReplacements_keeps (hd : KeptInside P d) (k : Nat) (t : Stamp)
    (hr : ∀ id a c s, P s → P (recordEvent id .replace t a c s).1) (i : Nat) (es : List ListEntry) (h : P s) :
    P (applyReplacements d k t i es s).1 := by
  induction es generalizing i s with
  | nil => exact h
  | cons e es ih => exact ih _ (hd _ _ (hr _ _ _ _ h))

end Sys2Proof.Machine
end

