-- ==== Sys2Proof/Laws/Bounds.lean ====
section
/-! SUPPORT. Each operation of the machine keeps the ranges of `State.Bounded`: one lemma for each, in the order of the
files, each proved from those of the operations it is made of. -/

namespace Sys2Proof.Machine

open Sys2Proof

variable {s : State}

/-! Plain updates -/

theorem bounded_choices (n : Nat) (h : s.Bounded) : State.Bounded { s with choices := n } := { h with }

theorem bounded_notices (q : List QueuedNotice) (hq : ∀ x ∈ q, x.age ≤ 7) (h : s.Bounded) :
    State.Bounded { s with notices := q } := { h with notices := hq }

theorem bounded_setRecord (id : PointId) (r : PointRecord) (h : s.Bounded) : (s.setRecord id r).Bounded := { h with }

theorem bounded_modifyRecord (id : PointId) (f : PointRecord → PointRecord) (h : s.Bounded) :
    (s.modifyRecord id f).Bounded := { h with }

theorem bounded_modifyEntry (k : Nat) (f : DirEntry → DirEntry) (h : s.Bounded) : (s.modifyEntry k f).Bounded := { h with }

theorem bounded_modifyInput (p : Nat) (f : InputState → InputState) (hf : ∀ i, i.Bounded → (f i).Bounded)
    (h : s.Bounded) : (s.modifyInput p f).Bounded :=
  { h with inputs := fun j => tableGet_tableSet_of _ p j _ _ (hf _ (h.inputs p)) (h.inputs j) }

theorem bounded_mapLoader (f : Loader → Loader) (hf : s.loader.Bounded → (f s.loader).Bounded) (h : s.Bounded) :
    (s.mapLoader f).Bounded := { h with loader := hf h.loader }

theorem bounded_mapLink (f : Link → Link) (hf : ∀ l, l.Bounded → (f l).Bounded) (h : s.Bounded) :
    (s.mapLink f).Bounded := { h with link := hf _ h.link }

theorem bounded_mapPort (f : Port → Port) (hf : ∀ p, p.Bounded → (f p).Bounded) (h : s.Bounded) :
    (s.mapPort f).Bounded := { h with port := hf _ h.port }

theorem bounded_mapPanel (f : Panel → Panel) (hf : ∀ p, p.Bounded → (f p).Bounded) (h : s.Bounded) :
    (s.mapPanel f).Bounded := { h with panel := hf _ h.panel }

theorem bounded_mapGroups (f : GroupUnit → GroupUnit) (hf : ∀ g, g.Latched → (f g).Latched) (h : s.Bounded) :
    (s.mapGroups f).Bounded := { h with groups := hf _ h.groups }

theorem bounded_mapList (f : AlarmList → AlarmList) (hf : ∀ l, (f l).generation = l.generation) (h : s.Bounded) :
    (s.mapList f).Bounded := { h with generation := (hf s.list).symm ▸ h.generation }

theorem bounded_mapAgreement (f : Agreement → Agreement) (hf : ∀ a, a.lapses ≤ 255 → (f a).lapses ≤ 255)
    (h : s.Bounded) : (s.mapAgreement f).Bounded := { h with lapses := hf _ h.lapses }

theorem bounded_setEvent (e : Event) (h : s.Bounded) : (setEvent e s).Bounded :=
  bounded_mapPort _ (fun _ p => ⟨p.overrun, p.index⟩) h

theorem bounded_recordHistory (e : HistoryEntry) (h : s.Bounded) : (recordHistory e s).Bounded := by
  rw [recordHistory_eq]
  exact { h with
    history := ⟨History.append_length _ e h.history.length, History.append_overflow _ e h.history.overflow⟩
    port := ⟨h.port.overrun, h.port.index⟩ }

theorem bounded_recordOwn (k : HistoryKind) (t : Stamp) (n : Option Nat) (h : s.Bounded) : State.Bounded (recordOwn k t n s) := bounded_recordHistory _ h

theorem bounded_complete (r : CommandResult) (out : List Byte) (h : s.Bounded) : State.Bounded (complete r out s) := bounded_setEvent _ (bounded_mapPort _ (fun _ p => ⟨p.overrun, p.index⟩) h)

theorem bounded_countFrameError (h : s.Bounded) : State.Bounded (countFrameError s) := bounded_setEvent _ (bounded_mapLink _ (fun _ l => ⟨saturate_le l.frameErrors, l.collisions, l.slips⟩) h)

theorem bounded_countSlip (h : s.Bounded) : State.Bounded (countSlip s) := bounded_mapLink _ (fun _ l => ⟨l.frameErrors, l.collisions, saturate_le l.slips⟩) h

theorem bounded_setCurrent (t : Stamp) (h : s.Bounded) : State.Bounded (setCurrent t s) := bounded_mapLink _ (fun _ l => ⟨l.frameErrors, l.collisions, l.slips⟩) h

theorem bounded_setListOwed (b : Bool) (h : s.Bounded) : State.Bounded (setListOwed b s) := bounded_modifyEntry _ _ h

theorem bounded_setLinkState (new : LinkState) (h : s.Bounded) : State.Bounded (setLinkState new s) := by
  unfold setLinkState
  split
  · exact h
  · have h1 := bounded_setEvent .linkchg (bounded_mapLink (s := s) (fun l => { l with state := new }) (fun _ l => ⟨l.frameErrors, l.collisions, l.slips⟩) h)
    simp only
    split
    · exact bounded_mapPanel _ (fun _ p => ⟨p.flash, p.ack, p.silence, p.reset, p.test⟩) h1
    · exact h1

/-! The Alarm List -/

theorem bounded_bumpGeneration (h : s.Bounded) : State.Bounded (bumpGeneration s) := 
  bounded_setEvent _ { h with generation := (by show (_ + 1) % 256 ≤ 255; omega) }

theorem bounded_listInsert (id : PointId) (h : s.Bounded) : State.Bounded (listInsert id s) := bounded_bumpGeneration (bounded_mapList _ (fun _ => rfl) h)

theorem bounded_listRemove (id : PointId) (h : s.Bounded) : State.Bounded (listRemove id s) := bounded_bumpGeneration (bounded_mapList _ (fun _ => rfl) h)

theorem bounded_setUnlisted (id : PointId) (h : s.Bounded) : State.Bounded (setUnlisted id s) := bounded_mapList _ (fun _ => rfl) (bounded_modifyRecord _ _ h)

theorem bounded_clearUnlisted (id : PointId) (h : s.Bounded) : State.Bounded (clearUnlisted id s) := by
  unfold clearUnlisted
  split
  · exact bounded_mapList _ (fun _ => rfl) (bounded_modifyRecord _ _ h)
  · exact h

theorem bounded_recordOverflow (id : PointId) (t : Stamp) (h : s.Bounded) : State.Bounded (recordOverflow id t s) := bounded_recordHistory _ h

theorem bounded_evict (v id : PointId) (t : Stamp) (h : s.Bounded) : State.Bounded (evict v id t s) := 
  bounded_recordOverflow _ _ (bounded_listInsert _ (bounded_setUnlisted _ (bounded_listRemove _ h)))

theorem bounded_refuse (id : PointId) (t : Stamp) (h : s.Bounded) : State.Bounded (refuse id t s) := bounded_recordOverflow _ _ (bounded_setUnlisted _ h)

theorem bounded_listEnter (id : PointId) (t : Stamp) (h : s.Bounded) : State.Bounded (listEnter id t s) := by
  grind [listEnter, bounded_evict, bounded_refuse, bounded_listInsert]

theorem bounded_listAdmit (h : s.Bounded) : State.Bounded (listAdmit s) := by
  grind [listAdmit, bounded_listInsert, bounded_clearUnlisted]

theorem bounded_listMove (id : PointId) (h : s.Bounded) : State.Bounded (listMove id s) := bounded_bumpGeneration (bounded_mapList _ (fun _ => rfl) h)

theorem bounded_listFollow (r : Report) (h : s.Bounded) : State.Bounded (listFollow r s) := by
  grind [listFollow, bounded_listEnter, bounded_listAdmit, bounded_listRemove, bounded_clearUnlisted, bounded_listMove, bounded_bumpGeneration]

theorem bounded_listRecompute (h : s.Bounded) : State.Bounded (listRecompute s) := by
  unfold listRecompute
  refine bounded_bumpGeneration (bounded_mapList _ (fun _ => rfl) (bounded_mapList _ (fun _ => rfl) ?_))
  refine foldl_keeps (P := State.Bounded) _ (fun s id h => ?_) _ _ h
  split
  · exact bounded_modifyRecord _ _ h
  · exact h

/-! The Group and Zone Unit -/

theorem bounded_setHolder (g : Nat) (p : Option PointId) (h : s.Bounded) : State.Bounded (setHolder g p s) := bounded_mapGroups _ (fun _ l => l) h

theorem bounded_setFirstOut (id : PointId) (b : Bool) (h : s.Bounded) : State.Bounded (setFirstOut id b s) := bounded_modifyRecord _ _ h

theorem bounded_firstOutMark (r : Report) (h : s.Bounded) : State.Bounded (firstOutMark r s) := by
  grind [firstOutMark, bounded_setHolder, bounded_setFirstOut]

theorem bounded_releaseGroup (id : PointId) (g : Nat) (h : s.Bounded) : State.Bounded (releaseGroup id s g) := by
  grind [releaseGroup, bounded_setHolder]

theorem bounded_firstOutRelease (id : PointId) (h : s.Bounded) : State.Bounded (firstOutRelease id s) := by
  unfold firstOutRelease
  exact foldl_keeps (P := State.Bounded) _ (fun _ _ h => bounded_releaseGroup _ _ h) _ _ h

theorem bounded_firstOutClaim (id : PointId) (h : s.Bounded) : State.Bounded (firstOutClaim id s) := by
  grind [firstOutClaim, bounded_setHolder, bounded_setFirstOut]

theorem bounded_firstOutReplace (r : Report) (h : s.Bounded) : State.Bounded (firstOutReplace r s) := by
  grind [firstOutReplace, bounded_firstOutClaim, bounded_firstOutRelease]

theorem bounded_groupsRecompute (h : s.Bounded) : State.Bounded (groupsRecompute s) := by
  unfold groupsRecompute
  refine foldl_keeps (P := State.Bounded) _ (fun s id h => ?_) _ _ (bounded_mapGroups _ (fun _ l => l) h)
  split
  · exact bounded_firstOutClaim _ h
  · exact h

theorem bounded_modifyZone (z : Nat) (f : ZoneSummary → ZoneSummary) (h : s.Bounded) : State.Bounded (modifyZone z f s) := bounded_mapGroups _ (fun _ l => l) h

theorem bounded_zoneFollow (r : Report) (h : s.Bounded) : State.Bounded (zoneFollow r s) := by
  grind [zoneFollow, bounded_modifyZone]

/-- A demand count under a latch that covers the old one leaves a latch that covers the new one (R56). -/
theorem bounded_setDemand (n : Nat) (h : s.Bounded) : State.Bounded (setDemand n s) := by
  refine bounded_mapGroups _ (fun g l hn => ?_) h
  have hn : 0 < n := hn
  show (g.latch || (g.demand == 0 && decide (0 < n))) = true
  by_cases hd : g.demand = 0
  · simp [hd, hn]
  · simp [l (Nat.pos_of_ne_zero hd)]

theorem bounded_demandFollow (r : Report) (h : s.Bounded) : State.Bounded (demandFollow r s) := by
  grind [demandFollow, bounded_setDemand]

theorem bounded_localReset (h : s.Bounded) : State.Bounded (localReset s) := by
  unfold localReset
  split
  · rename_i hd
    exact { h with groups := fun hp => absurd (hd ▸ hp : 0 < 0) (Nat.lt_irrefl 0) }
  · exact h

theorem bounded_groupsFollow (r : Report) (h : s.Bounded) : State.Bounded (groupsFollow r s) := 
  bounded_firstOutRelease _ (bounded_firstOutReplace _ (bounded_firstOutMark _ (bounded_demandFollow _ (bounded_zoneFollow _ h))))

theorem bounded_leaveZone (k : Nat) (h : s.Bounded) : State.Bounded (leaveZone k s) := by
  grind [leaveZone, bounded_modifyZone]

theorem bounded_joinZone (k z : Nat) (h : s.Bounded) : State.Bounded (joinZone k z s) := bounded_modifyZone _ _ h

theorem bounded_moveCauses (k : Nat) (o n : Option Nat) (h : s.Bounded) : State.Bounded (moveCauses k o n s) := by
  grind [moveCauses, bounded_setDemand]

theorem bounded_takeZone (k z : Nat) (h : s.Bounded) : State.Bounded (takeZone k z s) := by
  grind [takeZone, bounded_leaveZone, bounded_joinZone, bounded_modifyEntry, bounded_moveCauses]

theorem bounded_adjustLost (k : Nat) (b : Bool) (h : s.Bounded) : State.Bounded (adjustLost k b s) := by
  grind [adjustLost, bounded_modifyZone]

/-! Reports -/

theorem bounded_historyFollow (r : Report) (h : s.Bounded) : State.Bounded (historyFollow r s) := by
  grind [historyFollow, bounded_recordHistory]

theorem bounded_newAlertFollow (r : Report) (h : s.Bounded) : State.Bounded (newAlertFollow r s) := by
  grind [newAlertFollow, bounded_setEvent]

theorem bounded_announceFollow (r : Report) (h : s.Bounded) : State.Bounded (announceFollow r s) := by
  unfold announceFollow
  split
  · exact bounded_modifyInput _ _ (fun _ i => ⟨i.count, i.chatter⟩) h
  · exact h

theorem bounded_deliver (r : Report) (h : s.Bounded) : State.Bounded (deliver r s) := 
  bounded_announceFollow _ (bounded_newAlertFollow _ (bounded_groupsFollow _ (bounded_listFollow _ (bounded_historyFollow _ h))))

theorem bounded_recordEvent (id : PointId) (e : RecordEvent) (t : Stamp) (a : Option Nat)
    (c : PointRecord → PointRecord × ReportOutcome) (h : s.Bounded) : State.Bounded ((recordEvent id e t a c s).1) := by
  unfold recordEvent recordEventWith
  exact bounded_deliver _ (bounded_setRecord _ _ h)

theorem bounded_recordEventInTreatment (id : PointId) (e : RecordEvent) (t : Stamp) (a : Option Nat)
    (c : PointRecord → PointRecord × ReportOutcome) (h : s.Bounded) : State.Bounded (
      (recordEventWith deliverInTreatment id e t a c s).1) := by
  unfold recordEventWith deliverInTreatment
  dsimp only
  exact bounded_groupsFollow _ (bounded_setRecord _ _ h)

theorem bounded_recordEvents {d : During} (hd : KeptInside State.Bounded d) (n : Nat) (e : RecordEvent) (t : Stamp)
    (a : Option Nat) (c : PointRecord → PointRecord × ReportOutcome) (i : Nat) (ids : List PointId) (h : s.Bounded) :
    State.Bounded (recordEvents d n e t a c i ids s).1 :=
  recordEvents_keeps hd n e t a c (fun _ _ h => bounded_recordEvent _ _ _ _ _ h) i ids h

theorem bounded_ownerLost (b : Bool) (k : Nat) (t : Stamp) (h : s.Bounded) : State.Bounded (ownerLost b k t s) := by
  unfold ownerLost
  refine foldl_keeps (P := State.Bounded) _ (fun s id h => ?_) _ _ h
  split
  · exact h
  · exact bounded_recordEvent _ _ _ _ _ h

/-! The Notice Queue -/

theorem bounded_appendNotice (n : Notice) (src : Source) (h : s.Bounded) : State.Bounded (appendNotice n src s) :=
  bounded_notices _ (fun x hx => by
    rcases List.mem_append.mp hx with hx | hx
    · exact h.notices x hx
    · rw [List.mem_singleton.mp hx]; exact Nat.zero_le _) h

theorem bounded_offer (n : Notice) (src : Source) (h : s.Bounded) : State.Bounded ((offer n src s).1) := by
  grind [offer, bounded_setEvent, bounded_appendNotice]

theorem bounded_freeSpaceOffers (h : s.Bounded) : State.Bounded ((freeSpaceOffers s).1) := by
  grind [freeSpaceOffers, bounded_choices]

theorem bounded_withdrawClear (p : Nat) (h : s.Bounded) : State.Bounded (withdrawClear p s).1 := by
  unfold withdrawClear
  have h1 := bounded_modifyInput p (fun i => { i with chatter := saturate 255 i.chatter })
    (fun _ i => ⟨i.count, saturate_le i.chatter⟩)
    (bounded_notices (s.notices.eraseP (fun q => conditionFor p q = some false))
      (fun x hx => h.notices x (List.mem_of_mem_eraseP hx)) h)
  dsimp only
  split
  · exact bounded_freeSpaceOffers h1
  · exact h1

theorem bounded_offerInput (p : Nat) (h : s.Bounded) : State.Bounded ((offerInput p s).1) := by
  grind [offerInput, bounded_offer, bounded_withdrawClear]

theorem bounded_offerHeldAck (h : s.Bounded) : State.Bounded (offerHeldAck s) := by
  unfold offerHeldAck
  split
  · dsimp only
    split
    · exact bounded_mapPanel _ (fun _ p => ⟨p.flash, p.ack, p.silence, p.reset, p.test⟩) (bounded_offer _ _ h)
    · exact bounded_offer _ _ h
  · exact h

theorem bounded_offerHeldReset (h : s.Bounded) : State.Bounded (offerHeldReset s) := by
  unfold offerHeldReset
  split
  · dsimp only
    split
    · exact bounded_mapPanel _ (fun _ p => ⟨p.flash, p.ack, p.silence, p.reset, p.test⟩) (bounded_offer _ _ h)
    · exact bounded_offer _ _ h
  · exact h

theorem bounded_runOffer (t : OfferTask) (h : s.Bounded) : State.Bounded (runOffer t s).1 := by
  cases t
  · exact bounded_offerInput _ h
  · exact bounded_offerHeldAck h
  · exact bounded_offerHeldReset h

theorem bounded_runOffers (fuel : Nat) (ts : List OfferTask) (h : s.Bounded) : State.Bounded (runOffers fuel ts s) := by
  induction fuel generalizing ts s with
  | zero => exact h
  | succ fuel ih =>
    cases ts with
    | nil => exact h
    | cons t ts => exact ih _ (bounded_runOffer t h)

theorem bounded_offersAfter (freed : Bool) (ps : List Nat) (h : s.Bounded) : State.Bounded (offersAfter freed ps s) := by
  grind [offersAfter, bounded_runOffers, bounded_freeSpaceOffers]

theorem bounded_discardEffect (q : QueuedNotice) (h : s.Bounded) : State.Bounded (discardEffect q s) := by
  grind [discardEffect, bounded_complete, bounded_modifyEntry]

theorem bounded_discardEffects (qs : List QueuedNotice) (h : s.Bounded) : State.Bounded (discardEffects qs s) := by
  unfold discardEffects
  exact foldl_keeps (P := State.Bounded) _ (fun _ _ h => bounded_discardEffect _ h) _ _ h

theorem bounded_flush (t : Stamp) (h : s.Bounded) : State.Bounded (flush t s) := by
  unfold flush
  have h1 := bounded_mapPanel (fun p => { p with heldAck := none, heldReset := none }) (fun _ p => ⟨p.flash, p.ack, p.silence, p.reset, p.test⟩) (bounded_notices [] (fun _ hx => absurd hx List.not_mem_nil) h)
  dsimp only
  split
  · exact h1
  · exact bounded_recordOwn _ _ _ (bounded_discardEffects _ h1)

theorem bounded_withdrawCommandNotice (h : s.Bounded) : State.Bounded (withdrawCommandNotice s) := 
  bounded_offersAfter _ _ (bounded_complete _ _ (bounded_notices _ (fun x hx => h.notices x (List.mem_of_mem_eraseP hx)) h))

/-! Notices applied, the Agreement Unit -/

theorem bounded_applyAckUpto {d : During} (hd : KeptInside State.Bounded d) (k : Nat) (t : Stamp) (m : ZoneMask)
    (l : Stamp) (h : s.Bounded) : State.Bounded (applyAckUpto d k t m l s).1 :=
  bounded_recordHistory _ (bounded_recordEvents hd _ _ _ _ _ _ _ h)

theorem bounded_applyResetUpto {d : During} (hd : KeptInside State.Bounded d) (k : Nat) (t : Stamp) (m : ZoneMask)
    (l : Stamp) (h : s.Bounded) : State.Bounded (applyResetUpto d k t m l s).1 :=
  bounded_recordHistory _ (bounded_recordEvents hd _ _ _ _ _ _ _ h)

theorem bounded_formWaitSet (h : s.Bounded) : State.Bounded (formWaitSet s) := by
  unfold formWaitSet
  refine foldl_keeps (P := State.Bounded) _ (fun s k h => ?_) _ _ h
  split
  · exact bounded_modifyEntry _ _ h
  · exact h

theorem bounded_applyJoin (o n : Bool) (h : s.Bounded) : State.Bounded (applyJoin o n s) := by
  have hs : ∀ {s : State}, s.Bounded → (s.mapLink (fun l => { l with joinSent := some n })).Bounded := fun h =>
    bounded_mapLink _ (fun _ l => ⟨l.frameErrors, l.collisions, l.slips⟩) h
  grind [applyJoin, bounded_setListOwed, bounded_formWaitSet]

theorem bounded_applyResyncRequest (o : Bool) (t : Nat) (h : s.Bounded) : State.Bounded (applyResyncRequest o t s) := by
  grind [applyResyncRequest, bounded_setListOwed, bounded_modifyEntry]

theorem bounded_applyNotice {d : During} (hd : KeptInside State.Bounded d) (k : Nat) (o : Bool) (t : Stamp) (n : Notice)
    (h : s.Bounded) : State.Bounded (applyNotice k o t n s d).1 := by
  cases n
  · exact bounded_recordEvent _ _ _ _ _ h
  · exact bounded_recordEvent _ _ _ _ _ h
  · exact bounded_applyAckUpto hd _ _ _ _ h
  · exact bounded_recordEvent _ _ _ _ _ h
  · exact bounded_applyResetUpto hd _ _ _ _ h
  · exact bounded_recordEvent _ _ _ _ _ h
  · exact bounded_recordEvent _ _ _ _ _ h
  · exact bounded_applyJoin _ _ h
  · exact bounded_applyResyncRequest _ _ h

theorem bounded_completeApplied (t : Stamp) (r : NoticeResult) (h : s.Bounded) : State.Bounded (completeApplied t r s) := by
  grind [completeApplied, bounded_complete]

theorem bounded_silenceAction (h : s.Bounded) : State.Bounded (silenceAction s) := bounded_mapPanel _ (fun _ p => ⟨p.flash, p.ack, p.silence, p.reset, p.test⟩) h

theorem bounded_applyNotices {d : During} (hd : KeptInside State.Bounded d) (k c : Nat) (o : Bool) (i : Nat)
    (ns : List (Option Notice × Bool)) (h : s.Bounded) : State.Bounded (applyNotices k c o d i ns s) :=
  applyNotices_keeps hd k c o (fun _ _ h => bounded_setCurrent _ h) (fun _ _ _ h => bounded_applyNotice hd _ _ _ _ h)
    (fun _ _ _ h => bounded_completeApplied _ _ h) i ns h

theorem bounded_requestResync (t : Nat) (h : s.Bounded) : State.Bounded (requestResync t s) := by
  grind [requestResync, bounded_offer, bounded_modifyEntry]

theorem bounded_onMismatch (k : Nat) (h : s.Bounded) : State.Bounded (onMismatch k s) := by
  grind [onMismatch, bounded_requestResync, bounded_modifyEntry]

theorem bounded_clearOwnerLost (k : Nat) (h : s.Bounded) : State.Bounded (clearOwnerLost k s) := by
  grind [clearOwnerLost, bounded_ownerLost]

theorem bounded_compareDigest (k : Nat) (d : Check) (h : s.Bounded) : State.Bounded (compareDigest k d s) := by
  unfold compareDigest
  split
  · exact bounded_clearOwnerLost _ (bounded_modifyEntry _ _ h)
  · exact bounded_onMismatch _ (bounded_setEvent _ h)

theorem bounded_makeDeferred (h : s.Bounded) : State.Bounded (makeDeferred s) := by
  unfold makeDeferred
  split
  · exact bounded_compareDigest _ _ (bounded_mapAgreement _ (fun _ l => l) h)
  · exact h

theorem bounded_takeDigest (f : SlotFrame) (o : Bool) (h : s.Bounded) : State.Bounded (takeDigest f o s) := by
  unfold takeDigest
  split
  · exact h
  · split
    · exact bounded_mapAgreement _ (fun _ l => l) h
    · exact bounded_compareDigest _ _ h

theorem bounded_applyReplacements {d : During} (hd : KeptInside State.Bounded d) (k : Nat) (t : Stamp) (i : Nat)
    (es : List ListEntry) (h : s.Bounded) : State.Bounded (applyReplacements d k t i es s).1 :=
  applyReplacements_keeps hd k t (fun _ _ _ _ h => bounded_recordEvent _ _ _ _ _ h) i es h

theorem bounded_applyOwnedList {d : During} (hd : KeptInside State.Bounded d) (k : Nat) (es : List ListEntry)
    (h : s.Bounded) : State.Bounded (applyOwnedList d k es s) := by
  have ha : ∀ {s : State}, s.Bounded → (s.mapAgreement (fun a => { a with deferred := none })).Bounded := fun h =>
    bounded_mapAgreement _ (fun _ l => l) h
  have h1 := bounded_applyReplacements hd k (listStamp s) 0 es (hd ⟨0, 0⟩ _ (bounded_setCurrent (listStamp s) h))
  grind [applyOwnedList, bounded_modifyEntry, bounded_clearOwnerLost, bounded_setEvent, bounded_recordHistory]

theorem bounded_treatRecords (c : Nat) (h : s.Bounded) : State.Bounded (treatRecords c s) := by
  unfold treatRecords
  exact foldl_keeps (P := State.Bounded) _ (fun _ _ h => bounded_recordEventInTreatment _ _ _ _ _ h) _ _
    (foldl_keeps (P := State.Bounded) _ (fun _ _ h => bounded_recordEventInTreatment _ _ _ _ _ h) _ _ h)

theorem bounded_dropRequests (h : s.Bounded) : State.Bounded (dropRequests s) := by
  unfold dropRequests
  exact foldl_keeps (P := State.Bounded) _ (fun _ _ h => bounded_modifyEntry _ _ h) _ _ h

theorem bounded_unsilence (h : s.Bounded) : State.Bounded (unsilence s) := bounded_mapPanel _ (fun _ p => ⟨p.flash, p.ack, p.silence, p.reset, p.test⟩) h

theorem bounded_tableTreatment (c : Nat) (h : s.Bounded) : State.Bounded (tableTreatment c s) := by
  unfold tableTreatment
  exact bounded_mapAgreement _ (fun _ l => l) (bounded_recordOwn _ _ _ (bounded_unsilence (bounded_groupsRecompute
    (bounded_listRecompute (bounded_dropRequests (bounded_treatRecords _ (bounded_mapAgreement _ (fun _ l => l) h)))))))

/-! Membership -/

theorem bounded_emptyWaitSet (h : s.Bounded) : State.Bounded (emptyWaitSet s) := by
  unfold emptyWaitSet
  exact foldl_keeps (P := State.Bounded) _ (fun _ _ h => bounded_modifyEntry _ _ h) _ _ h

theorem bounded_endOwnSlot (h : s.Bounded) : State.Bounded (endOwnSlot s) := bounded_mapLink _ (fun _ l => ⟨l.frameErrors, l.collisions, l.slips⟩) h

theorem bounded_dropDuties (h : s.Bounded) : State.Bounded (dropDuties s) :=
  bounded_setListOwed _ (bounded_emptyWaitSet (bounded_endOwnSlot h))

theorem bounded_flushNow (h : s.Bounded) : State.Bounded (flushNow s) := bounded_flush _ h

theorem bounded_unfollow (h : s.Bounded) : State.Bounded (unfollow s) :=
  bounded_mapAgreement _ (fun _ l => l) (bounded_mapLink _ (fun _ l => ⟨l.frameErrors, l.collisions, l.slips⟩) h)

theorem bounded_enterListening (h : s.Bounded) : State.Bounded (enterListening s) :=
  bounded_flushNow (bounded_unfollow (bounded_dropDuties (bounded_setLinkState _ h)))

theorem bounded_enterJoining (h : s.Bounded) : State.Bounded (enterJoining s) :=
  bounded_setListOwed _ (bounded_appendNotice _ _ (bounded_mapLink _ (fun _ l => ⟨l.frameErrors, l.collisions, l.slips⟩)
    (bounded_emptyWaitSet (bounded_setLinkState _ h))))

theorem bounded_requestStale (h : s.Bounded) : State.Bounded (requestStale s) := by
  unfold requestStale
  refine foldl_keeps (P := State.Bounded) _ (fun s k h => ?_) _ _ h
  split
  · exact bounded_requestResync _ (bounded_modifyEntry _ _ h)
  · exact h

theorem bounded_enterRunning (h : s.Bounded) : State.Bounded (enterRunning s) := by
  have h2 := bounded_mapLink (s := emptyWaitSet (setLinkState .running s)) (fun l =>
      { l with tablesNeeded := if l.joinSent = some true then false else l.tablesNeeded, joinSent := none })
    (fun _ l => ⟨l.frameErrors, l.collisions, l.slips⟩) (bounded_emptyWaitSet (bounded_setLinkState _ h))
  unfold enterRunning
  dsimp only
  split
  · exact inEitherOrder_keeps (fun _ _ h => bounded_choices _ h) _
      (by simp only [List.mem_cons, List.not_mem_nil, or_false]
          rintro f (rfl | rfl) s h
          · exact bounded_runOffers _ _ h
          · exact bounded_requestStale h) _ h2
  · exact bounded_runOffers _ _ h2

theorem bounded_stopMarks (h : s.Bounded) : State.Bounded (stopMarks s) := bounded_mapLink _ (fun _ l => ⟨l.frameErrors, l.collisions, l.slips⟩) h

theorem bounded_recordPassage (k : HistoryKind) (h : s.Bounded) : State.Bounded (recordPassage k s) :=
  bounded_recordOwn _ _ _ h

theorem bounded_leaveLink (new : LinkState) (k : HistoryKind) (h : s.Bounded) : State.Bounded (leaveLink new k s) := by
  have h1 := bounded_stopMarks (bounded_dropDuties (bounded_setLinkState new h))
  unfold leaveLink
  dsimp only
  split
  · exact bounded_flushNow (bounded_recordPassage _ h1)
  · exact inEitherOrder_keeps (fun _ _ h => bounded_choices _ h) _
      (by simp only [List.mem_cons, List.not_mem_nil, or_false]
          rintro f (rfl | rfl) s h
          · exact bounded_recordPassage _ h
          · exact bounded_flushNow h) _ h1

theorem bounded_enterIsolated (d : Nat) (h : s.Bounded) : State.Bounded (enterIsolated d s) :=
  bounded_mapPort _ (fun _ p => ⟨p.overrun, p.index⟩) (bounded_leaveLink _ _ h)

theorem bounded_endModalIsolation (h : s.Bounded) : State.Bounded (endModalIsolation s) := by
  unfold endModalIsolation
  split
  · exact bounded_mapPort _ (fun _ p => ⟨p.overrun, p.index⟩) h
  · exact h
  · exact h

theorem bounded_enterConflict (h : s.Bounded) : State.Bounded (enterConflict s) := by
  grind [enterConflict, bounded_endModalIsolation, bounded_leaveLink]

theorem bounded_enterMismatch (h : s.Bounded) : State.Bounded (enterMismatch s) := by
  grind [enterMismatch, bounded_endModalIsolation, bounded_leaveLink]

theorem bounded_rejoin (h : s.Bounded) : State.Bounded (rejoin s) := by
  grind [rejoin, bounded_enterJoining, bounded_recordOwn]

theorem bounded_tableRebuild (c : Nat) (h : s.Bounded) : State.Bounded (tableRebuild c s) := by
  have h2 := bounded_mapLink (fun l => { l with tablesNeeded := true }) (fun _ l => ⟨l.frameErrors, l.collisions, l.slips⟩)
    (bounded_flush ⟨c, 0, 0⟩ (bounded_tableTreatment c (bounded_makeDeferred h)))
  unfold tableRebuild
  dsimp only
  split
  · exact bounded_mapLink _ (fun _ l => ⟨l.frameErrors, l.collisions, l.slips⟩) (bounded_enterJoining h2)
  · exact bounded_mapLink _ (fun _ l => ⟨l.frameErrors, l.collisions, l.slips⟩) h2

theorem bounded_ownInitialisation (c : Nat) (h : s.Bounded) : State.Bounded (ownInitialisation c s) :=
  bounded_mapLink _ (fun _ l => ⟨l.frameErrors, l.collisions, l.slips⟩) (foldl_keeps (P := State.Bounded) _ (fun _ _ h => bounded_recordEvent _ _ _ _ _ h) _ _ h)

theorem bounded_linkLostRaise (k : Nat) (t : Stamp) (h : s.Bounded) : State.Bounded (linkLostRaise k t s) := bounded_recordEvent _ _ _ _ _ h

theorem bounded_linkLostClear (k : Nat) (t : Stamp) (h : s.Bounded) : State.Bounded (linkLostClear k t s) := bounded_recordEvent _ _ _ _ _ h

theorem bounded_becomeLost (k : Nat) (t : Stamp) (h : s.Bounded) : State.Bounded (becomeLost k t s) := by
  have h2 := bounded_setEvent .stalost (bounded_adjustLost k true
    (bounded_modifyEntry k (fun e => { e with liveness := .lost, joinWait := none }) h))
  unfold becomeLost
  dsimp only
  split
  · exact bounded_recordHistory _ (bounded_ownerLost _ _ _ (bounded_linkLostRaise _ _ h2))
  · exact inEitherOrder_keeps (fun _ _ h => bounded_choices _ h) _
      (by simp only [List.mem_cons, List.not_mem_nil, or_false]
          rintro f (rfl | rfl) s h
          · exact bounded_ownerLost _ _ _ (bounded_linkLostRaise _ _ h)
          · exact bounded_recordHistory _ h) _ h2

theorem bounded_directorySilent (k : Nat) (t : Stamp) (h : s.Bounded) : State.Bounded (directorySilent k t s) := by
  grind [directorySilent, bounded_modifyEntry, bounded_becomeLost]

theorem bounded_leaveLost (k : Nat) (t : Stamp) (h : s.Bounded) : State.Bounded (leaveLost k t s) := 
  bounded_setEvent _ (bounded_recordHistory _ (bounded_linkLostClear _ _ (bounded_adjustLost _ _ (bounded_modifyEntry _ _ h))))

theorem bounded_joinWaitSet (k : Nat) (h : s.Bounded) : State.Bounded (joinWaitSet k s) := by
  grind [joinWaitSet, bounded_modifyEntry]

theorem bounded_directoryHeader (f : SlotFrame) (c : Nat) (h : s.Bounded) : State.Bounded (directoryHeader f c s) := by
  grind [directoryHeader, bounded_modifyEntry, bounded_takeZone, bounded_joinWaitSet, bounded_setEvent, bounded_leaveLost]

theorem bounded_ageJoinWait (c k : Nat) (h : s.Bounded) : State.Bounded (ageJoinWait c k s) := by
  grind [ageJoinWait, bounded_modifyEntry, bounded_requestResync, bounded_recordHistory]

theorem bounded_agePending (c t : Nat) (h : s.Bounded) : State.Bounded (agePending c t s) := by
  unfold agePending
  split
  · exact h
  · split
    · exact bounded_modifyEntry _ _ h
    · exact bounded_setEvent _ (bounded_recordHistory _ (bounded_mapAgreement _ (fun _ l => saturate_le l)
        (bounded_modifyEntry _ _ h)))

theorem bounded_runIfJoined (h : s.Bounded) : State.Bounded (runIfJoined s) := by
  grind [runIfJoined, bounded_enterRunning]

theorem bounded_ageQueue (c : Nat) (h : s.Bounded) : State.Bounded (ageQueue c s) := by
  have h1 := bounded_notices ((s.notices.map (fun q => { q with age := q.age + 1 })).filter
    (fun q => q.age < Config.noticeAgeLimit)) (fun x hx => by
      have := of_decide_eq_true (List.mem_filter.mp hx).2
      simp only [Config.noticeAgeLimit] at this
      omega) h
  unfold ageQueue
  dsimp only
  split
  · exact h1
  · exact bounded_offersAfter _ _ (foldl_keeps (P := State.Bounded) _ (fun _ _ h => bounded_appendNotice _ _ h) _ _
      (bounded_discardEffects _ (bounded_recordOwn _ _ _ h1)))

theorem bounded_markTasks (c : Nat) (f : State → State) (hf : f ∈ markTasks c) (h : s.Bounded) : State.Bounded (f s) := by
  simp only [markTasks, List.cons_append, List.mem_cons, List.mem_append, List.mem_map, List.not_mem_nil, or_false] at hf
  rcases hf with rfl | (⟨t, _, rfl⟩ | ⟨k, _, rfl⟩) | rfl
  · exact bounded_ageQueue _ h
  · exact bounded_agePending _ _ h
  · exact bounded_ageJoinWait _ _ h
  · exact bounded_runIfJoined h

theorem bounded_markParties (c : Nat) (h : s.Bounded) : State.Bounded (markParties c s) := by
  unfold markParties
  split
  · exact h
  split
  · exact inEitherOrder_keeps (fun _ _ h => bounded_choices _ h) _ (fun f hf _ h => bounded_markTasks c f hf h) _ h
  · exact inTurn_keeps _ (fun f hf _ h => bounded_markTasks c f hf h) _ h

/-! The link cycle -/

theorem bounded_startFrame (h : s.Bounded) : State.Bounded (startFrame s) := bounded_mapLink _ (fun _ l => ⟨l.frameErrors, l.collisions, l.slips⟩) h

theorem bounded_ensureStarted (h : s.Bounded) : State.Bounded (ensureStarted s) := by
  grind [ensureStarted, bounded_startFrame]

theorem bounded_beginSlot (k : Nat) (h : s.Bounded) : State.Bounded (beginSlot k s) := bounded_mapLink _ (fun _ l => ⟨l.frameErrors, l.collisions, l.slips⟩) h

theorem bounded_beginMarkPhase (h : s.Bounded) : State.Bounded (beginMarkPhase s) := bounded_mapLink _ (fun _ l => ⟨l.frameErrors, l.collisions, l.slips⟩) h

theorem bounded_endSlot (k : Nat) (h : s.Bounded) : State.Bounded (endSlot k s) := by
  grind [endSlot, bounded_endOwnSlot, bounded_makeDeferred, bounded_beginSlot, bounded_beginMarkPhase]

theorem bounded_endUnreadFrame (h : s.Bounded) : State.Bounded (endUnreadFrame s) := by
  have h1 := bounded_mapLink (fun l => { l with reception := .idle }) (fun _ l => ⟨l.frameErrors, l.collisions, l.slips⟩) h
  unfold endUnreadFrame
  dsimp only
  split
  · exact bounded_mapLink _ (fun _ l => ⟨l.frameErrors, l.collisions, l.slips⟩) h1
  · exact bounded_beginSlot _ (bounded_mapLink _ (fun _ l => ⟨l.frameErrors, l.collisions, l.slips⟩) h1)
  · exact h1

theorem bounded_endInvalidFrame (h : s.Bounded) : State.Bounded (endInvalidFrame s) := by
  unfold endInvalidFrame
  dsimp only
  split
  · exact bounded_mapLink _ (fun _ l => ⟨l.frameErrors, l.collisions, l.slips⟩) (bounded_countFrameError h)
  · exact bounded_endUnreadFrame (bounded_ensureStarted (bounded_countFrameError h))

theorem bounded_presetSlot (k : Nat) (h : s.Bounded) : State.Bounded (presetSlot k s) := by
  unfold presetSlot
  refine bounded_mapLink _ (fun _ l => ⟨l.frameErrors, l.collisions, l.slips⟩) ?_
  split
  · exact bounded_countSlip h
  · exact h

theorem bounded_presetMark (o : Bool) (h : s.Bounded) : State.Bounded (presetMark o s) := by
  grind [presetMark, bounded_beginSlot, bounded_countSlip]

theorem bounded_takeCycle (c : Nat) (h : s.Bounded) : State.Bounded (takeCycle c s) := bounded_mapLink _ (fun _ l => ⟨l.frameErrors, l.collisions, l.slips⟩) h

theorem bounded_settleCycle (m : Bool) (c : Nat) (h : s.Bounded) : State.Bounded (settleCycle m c s) := by
  grind [settleCycle, bounded_takeCycle, bounded_tableRebuild]

theorem bounded_examineSender (k : Nat) (o : Bool) (h : s.Bounded) : State.Bounded (examineSender k o s) := by
  grind [examineSender, bounded_enterConflict]

theorem bounded_applyMark (f : MarkFrame) (o : Bool) (h : s.Bounded) : State.Bounded (applyMark f o s) :=
  bounded_markParties _ (bounded_modifyEntry _ _ (bounded_mapLink _ (fun _ l => ⟨l.frameErrors, l.collisions, l.slips⟩)
    (bounded_beginSlot _ (bounded_takeCycle _ (bounded_presetMark _ h)))))

theorem bounded_joinAtMark (f : MarkFrame) (h : s.Bounded) : State.Bounded (joinAtMark f s) := by
  have h1 := bounded_mapLink (fun l => { l with cycle := some f.cycle }) (fun _ l => ⟨l.frameErrors, l.collisions, l.slips⟩) (bounded_enterJoining h)
  unfold joinAtMark
  refine bounded_applyMark _ _ ?_
  split
  · exact bounded_tableRebuild _ h1
  · exact h1

theorem bounded_followMark (f : MarkFrame) (h : s.Bounded) : State.Bounded (followMark f s) := by
  have h1 := bounded_beginSlot 1 (bounded_takeCycle f.cycle (bounded_presetMark false h))
  unfold followMark
  dsimp only
  split
  · exact bounded_mapLink _ (fun _ l => ⟨l.frameErrors, l.collisions, l.slips⟩) h1
  · exact h1

theorem bounded_receiveMark (f : MarkFrame) (h : s.Bounded) : State.Bounded (receiveMark f s) := by
  have h2 := bounded_mapLink (fun l => { l with reception := .idle, markTimer := .stopped }) (fun _ l => ⟨l.frameErrors, l.collisions, l.slips⟩)
    (bounded_examineSender f.sender false (bounded_makeDeferred (bounded_ensureStarted h)))
  unfold receiveMark
  dsimp only
  split
  · exact bounded_endUnreadFrame (bounded_enterMismatch h2)
  · split
    · exact bounded_joinAtMark _ h2
    · split
      · exact bounded_followMark _ h2
      · exact bounded_applyMark _ _ (bounded_settleCycle _ _ h2)

theorem bounded_applySlot {d : During} (hd : KeptInside State.Bounded d) (f : SlotFrame) (o : Bool)
    (ns : List (Option Notice × Bool)) (h : s.Bounded) : State.Bounded (applySlot f o d ns s) :=
  bounded_setCurrent _ (bounded_takeDigest _ _ (bounded_applyNotices hd _ _ _ _ _
    (hd _ _ (bounded_directoryHeader _ _ (hd _ _ (bounded_presetSlot _ h))))))

theorem bounded_receiveSlot {d : During} (hd : KeptInside State.Bounded d) (f : SlotFrame) (h : s.Bounded) :
    State.Bounded (receiveSlot d f s) := by
  have h2 := bounded_mapLink (fun l => { l with reception := .idle, markTimer := .stopped }) (fun _ l => ⟨l.frameErrors, l.collisions, l.slips⟩)
    (bounded_examineSender f.sender false (bounded_makeDeferred (bounded_ensureStarted h)))
  unfold receiveSlot
  dsimp only
  split
  · exact bounded_presetSlot _ (bounded_takeCycle _ h2)
  · split
    · exact bounded_endUnreadFrame (bounded_countSlip h2)
    · exact bounded_applySlot hd _ _ _ (bounded_settleCycle _ _ h2)

theorem bounded_takeOwnedList {d : During} (hd : KeptInside State.Bounded d) (f : ListFrame) (h : s.Bounded) :
    State.Bounded (takeOwnedList d f s) := by
  grind [takeOwnedList, bounded_applyOwnedList, bounded_countFrameError]

theorem bounded_receiveList {d : During} (hd : KeptInside State.Bounded d) (f : ListFrame) (h : s.Bounded) :
    State.Bounded (receiveList d f s) := by
  have h2 := bounded_endUnreadFrame (bounded_mapLink (fun l => { l with markTimer := .stopped }) (fun _ l => ⟨l.frameErrors, l.collisions, l.slips⟩)
    (bounded_examineSender f.sender false (bounded_ensureStarted h)))
  unfold receiveList
  dsimp only
  split
  · exact h2
  · exact bounded_takeOwnedList hd _ h2

theorem bounded_receiveBytes {d : During} (hd : KeptInside State.Bounded d) (bs : List Byte) (h : s.Bounded) :
    State.Bounded (receiveBytes d bs s) := by
  grind [receiveBytes, bounded_receiveMark, bounded_receiveSlot, bounded_receiveList, bounded_endInvalidFrame]

theorem bounded_takeWaitingIsolation (h : s.Bounded) : State.Bounded (takeWaitingIsolation s) := by
  grind [takeWaitingIsolation, bounded_complete, bounded_enterIsolated]

theorem bounded_startSending (f : Sending) (h : s.Bounded) : State.Bounded (startSending f s) := bounded_mapLink _ (fun _ l => ⟨l.frameErrors, l.collisions, l.slips⟩) (bounded_startFrame h)

theorem bounded_handOver (h : s.Bounded) : State.Bounded (handOver s) := by
  refine bounded_notices _ (fun x hx => ?_) h
  rcases List.mem_append.mp hx with hx | hx
  · obtain ⟨q, hq, rfl⟩ := List.mem_map.mp hx
    exact h.notices q (List.mem_of_mem_take hq)
  · exact h.notices x (List.mem_of_mem_drop hx)

theorem bounded_foundersSlot (h : s.Bounded) : State.Bounded (foundersSlot s) := by
  have h1 := bounded_mapLink (fun l => { l with foundingSlot := false }) (fun _ l => ⟨l.frameErrors, l.collisions, l.slips⟩) h
  unfold foundersSlot
  dsimp only
  split
  · split
    · exact bounded_tableTreatment _ h1
    · exact bounded_ownInitialisation _ h1
  · exact h1

theorem bounded_formSlotFrame (c : Nat) (h : s.Bounded) : State.Bounded (formSlotFrame c s) := by
  unfold formSlotFrame
  refine bounded_startSending _ (bounded_mapAgreement _ (fun _ l => l) ?_)
  split
  · exact bounded_ownInitialisation _ (bounded_handOver h)
  · exact bounded_handOver h

theorem bounded_sendSlotFrame (h : s.Bounded) : State.Bounded (sendSlotFrame s) := by
  have h1 := bounded_foundersSlot (bounded_mapLink (fun l => { l with sendDue := false }) (fun _ l => ⟨l.frameErrors, l.collisions, l.slips⟩) h)
  unfold sendSlotFrame
  split
  · split
    · dsimp only
      split
      · exact h1
      · exact bounded_formSlotFrame _ h1
    · exact h
  · exact h

theorem bounded_endSending (h : s.Bounded) : State.Bounded (endSending s) := bounded_mapLink _ (fun _ l => ⟨l.frameErrors, l.collisions, l.slips⟩) h

theorem bounded_applyOwnSlot {d : During} (hd : KeptInside State.Bounded d) (f : SlotFrame) (ns : List QueuedNotice)
    (h : s.Bounded) : State.Bounded (applyOwnSlot d f ns s) :=
  bounded_clearOwnerLost _ (bounded_mapAgreement _ (fun _ l => l)
    (bounded_applySlot hd _ _ _ (bounded_settleCycle _ _ (bounded_endSending h))))

theorem bounded_removeInFlight (h : s.Bounded) : State.Bounded (removeInFlight s) :=
  bounded_notices _ (fun x hx => h.notices x (List.mem_filter.mp hx).1) h

theorem bounded_slotFrameDone (b : Bool) (h : s.Bounded) : State.Bounded (slotFrameDone b s) :=
  bounded_mapLink _ (fun _ l => ⟨l.frameErrors, l.collisions, l.slips⟩) h

theorem bounded_applyAndRemove {d : During} (hd : KeptInside State.Bounded d) (b : Bool) (f : SlotFrame) (h : s.Bounded) :
    State.Bounded (applyAndRemove d b f s).1 := by
  unfold applyAndRemove
  split
  · exact bounded_applyOwnSlot hd _ _ (bounded_removeInFlight h)
  · exact bounded_removeInFlight (bounded_applyOwnSlot hd _ _ h)

theorem bounded_slotFrameSent {d : During} (hd : KeptInside State.Bounded d) (b : Bool) (h : s.Bounded) :
    State.Bounded (slotFrameSent d b s) := by
  unfold slotFrameSent
  split
  · have h2 := fun f : SlotFrame => bounded_slotFrameDone f.listFollows (bounded_applyAndRemove hd b f h)
    dsimp only
    split
    · refine inEitherOrder_keeps (P := State.Bounded) (fun _ _ h => bounded_choices _ h) _ ?_ _ (h2 _)
      simp only [List.mem_cons, List.not_mem_nil, or_false]
      rintro f (rfl | rfl) s h
      · exact bounded_offersAfter _ _ h
      · exact bounded_takeWaitingIsolation h
    · exact bounded_offersAfter _ _ (h2 _)
  · exact h

theorem bounded_sendOwnedList (h : s.Bounded) : State.Bounded (sendOwnedList s) := by
  unfold sendOwnedList
  split
  · exact bounded_startSending _ (bounded_mapLink _ (fun _ l => ⟨l.frameErrors, l.collisions, l.slips⟩) h)
  · exact h

theorem bounded_ownedListSent (h : s.Bounded) : State.Bounded (ownedListSent s) := by
  unfold ownedListSent
  split
  · exact bounded_takeWaitingIsolation (bounded_mapLink _ (fun _ l => ⟨l.frameErrors, l.collisions, l.slips⟩)
      (bounded_endUnreadFrame (bounded_setListOwed _ (bounded_endSending h))))
  · exact h

theorem bounded_markSent (f : MarkFrame) (h : s.Bounded) : State.Bounded (markSent f s) :=
  bounded_takeWaitingIsolation (bounded_applyMark _ _ (bounded_settleCycle _ _ (bounded_endSending h)))

theorem bounded_expireMarkTimer (h : s.Bounded) : State.Bounded (expireMarkTimer s) := by
  grind [expireMarkTimer, bounded_startSending]

theorem bounded_takeWaitingAbort (h : s.Bounded) : State.Bounded (takeWaitingAbort s) := by
  grind [takeWaitingAbort, bounded_withdrawCommandNotice]

theorem bounded_afterAbandoned (b : Bool) (ps : List Nat) (h : s.Bounded) : State.Bounded (afterAbandoned b ps s) := by
  unfold afterAbandoned
  refine inEitherOrder_keeps (fun _ _ h => bounded_choices _ h) _ (fun f hf s h => ?_) _ h
  simp only [List.mem_append, or_assoc] at hf
  rcases hf with hf | hf | hf | hf
  · split at hf
    · rw [List.mem_singleton.mp hf]; exact bounded_takeWaitingAbort h
    · exact absurd hf List.not_mem_nil
  · split at hf
    · rw [List.mem_singleton.mp hf]; exact bounded_takeWaitingIsolation h
    · exact absurd hf List.not_mem_nil
  · split at hf
    · rw [List.mem_singleton.mp hf]; exact bounded_enterConflict h
    · exact absurd hf List.not_mem_nil
  · split at hf
    · exact absurd hf List.not_mem_nil
    · rw [List.mem_singleton.mp hf]; exact bounded_offersAfter _ _ h

theorem bounded_markCollides (h : s.Bounded) : State.Bounded (markCollides s) :=
  bounded_afterAbandoned _ _ (bounded_mapLink _ (fun _ l => ⟨l.frameErrors, l.collisions, l.slips⟩) h)

theorem bounded_ownSlotCollides (h : s.Bounded) : State.Bounded (ownSlotCollides s) :=
  bounded_afterAbandoned _ _ (bounded_mapAgreement _ (fun _ l => l) (bounded_notices _ (fun x hx => by
    obtain ⟨q, hq, rfl⟩ := List.mem_map.mp hx; exact h.notices q hq) (bounded_mapLink _ (fun _ l => ⟨l.frameErrors, l.collisions, l.slips⟩) h)))

theorem bounded_collide (h : s.Bounded) : State.Bounded (collide s) := by
  have h1 := bounded_mapLink (fun l => { l with collisions := saturate 255 l.collisions })
    (fun _ l => ⟨l.frameErrors, saturate_le l.collisions, l.slips⟩) h
  unfold collide
  dsimp only
  split
  · exact h
  · exact bounded_markCollides h1
  · exact bounded_ownSlotCollides h1
  · exact bounded_ownSlotCollides h1

theorem bounded_silentSlotEnds (h : s.Bounded) : State.Bounded (silentSlotEnds s) := by
  grind [silentSlotEnds, bounded_endSlot, bounded_directorySilent, bounded_setCurrent]

theorem bounded_occupiedSlotEnds (h : s.Bounded) : State.Bounded (occupiedSlotEnds s) := by
  grind [occupiedSlotEnds, bounded_endSlot]

theorem bounded_cutFrame (h : s.Bounded) : State.Bounded (cutFrame s) := by
  grind [cutFrame, bounded_endInvalidFrame]

theorem bounded_slotLimitEnds (h : s.Bounded) : State.Bounded (slotLimitEnds s) := by
  unfold slotLimitEnds
  split
  · split
    · exact h
    · refine bounded_endSlot _ ?_
      split
      · exact h
      · exact bounded_countFrameError (bounded_mapLink _ (fun _ l => ⟨l.frameErrors, l.collisions, l.slips⟩) h)
  · exact bounded_cutFrame h
  · exact bounded_cutFrame h

theorem bounded_listenWindowEnds (h : s.Bounded) : State.Bounded (listenWindowEnds s) := by
  unfold listenWindowEnds
  split
  · exact bounded_mapLink _ (fun _ l => ⟨l.frameErrors, l.collisions, l.slips⟩) h
  · exact h

theorem bounded_found (h : s.Bounded) : State.Bounded (found s) := by
  unfold found
  split
  · exact bounded_startSending _ (bounded_runOffers _ _ (bounded_setListOwed _ (bounded_appendNotice _ _
      (bounded_mapLink _ (fun _ l => ⟨l.frameErrors, l.collisions, l.slips⟩) (bounded_setLinkState _ h)))))
  · exact h

theorem bounded_joinQuietEnds (h : s.Bounded) : State.Bounded (joinQuietEnds s) := by
  grind [joinQuietEnds, bounded_enterListening]

theorem bounded_frameStarts (h : s.Bounded) : State.Bounded (frameStarts s) := by
  grind [frameStarts, bounded_startFrame]

theorem bounded_frameEndsByGap (h : s.Bounded) : State.Bounded (frameEndsByGap s) := bounded_cutFrame h

theorem bounded_invalidFrameEnds (h : s.Bounded) : State.Bounded (invalidFrameEnds s) := by
  grind [invalidFrameEnds, bounded_endInvalidFrame]

theorem bounded_markEnds (bs : List Byte) (h : s.Bounded) : State.Bounded (markEnds bs s) := by
  grind [markEnds, bounded_markSent, bounded_receiveBytes, keptInside_nothing]

/-! Inputs and panel -/

/-- A sample leaves a count that the debounce time of the input bounds (R140). -/
theorem bounded_sampleFilter {i : InputState} {d : Nat} (b : Bool) (hd : d ≤ 15) (h : i.Bounded) :
    (sampleFilter d b i).Bounded := by
  refine ⟨?_, ?_⟩
  · have := h.count
    unfold sampleFilter
    dsimp only
    split <;> (repeat' split) <;> dsimp only <;> omega
  · have := h.chatter
    unfold sampleFilter
    dsimp only
    split <;> (repeat' split) <;> exact this

theorem State.Bounded.debounce (h : s.Bounded) (p : Nat) : (s.inputConfig p).debounce ≤ 15 := by
  unfold State.inputConfig
  split
  · rename_i i hi
    rw [List.getD_eq_getElem?_getD]
    cases hp : i.inputs[p]? with
    | none => exact Nat.zero_le _
    | some c => exact h.loader.debounce i hi c (List.mem_of_getElem? hp)
  · exact Nat.zero_le _

theorem bounded_sampleInputs (closed : BitVec 16) (h : s.Bounded) : State.Bounded (sampleInputs closed s) := by
  unfold sampleInputs
  split
  · refine foldl_keeps (P := State.Bounded) _ (fun s p h => ?_) _ _ h
    unfold sampleInput
    dsimp only
    split
    · exact bounded_modifyInput _ _ (fun _ i => bounded_sampleFilter _ (h.debounce p) i) h
    · exact h
  · exact h

theorem sampleButton_le (closed : Bool) (b : ButtonState) : (sampleButton closed b).count ≤ 19 := by
  unfold sampleButton
  simp only [Config.buttonSamples]
  split
  · exact Nat.zero_le _
  · split
    · dsimp only; omega
    · exact Nat.zero_le _

theorem bounded_sampleButtons (a b c d : Bool) (h : s.Bounded) : State.Bounded (sampleButtons a b c d s) :=
  bounded_mapPanel _ (fun _ p => ⟨p.flash, sampleButton_le _ _, sampleButton_le _ _, sampleButton_le _ _,
    sampleButton_le _ _⟩) h

theorem bounded_pressAck (h : s.Bounded) : State.Bounded (pressAck s) := by
  unfold pressAck
  split
  · exact bounded_mapPanel _ (fun _ p => ⟨p.flash, p.ack, p.silence, p.reset, p.test⟩) h
  · exact bounded_mapPanel _ (fun _ p => ⟨p.flash, p.ack, p.silence, p.reset, p.test⟩) (bounded_offer _ _ h)

theorem bounded_pressReset (h : s.Bounded) : State.Bounded (pressReset s) := by
  unfold pressReset
  split
  · exact bounded_mapPanel _ (fun _ p => ⟨p.flash, p.ack, p.silence, p.reset, p.test⟩) h
  · exact bounded_mapPanel _ (fun _ p => ⟨p.flash, p.ack, p.silence, p.reset, p.test⟩) (bounded_offer _ _ h)

theorem bounded_startLampTest (n : Option Nat) (h : s.Bounded) : State.Bounded (startLampTest n s) :=
  bounded_mapPort _ (fun _ p => ⟨p.overrun, p.index⟩) (bounded_rejoin h)

theorem bounded_endLampTest (h : s.Bounded) : State.Bounded (endLampTest s) := by
  unfold endLampTest
  split
  · exact bounded_mapPort _ (fun _ p => ⟨p.overrun, p.index⟩) h
  · exact h
  · exact h

theorem bounded_expireLampTest (h : s.Bounded) : State.Bounded (expireLampTest s) := by
  unfold expireLampTest
  split
  · exact bounded_mapPort _ (fun _ p => ⟨p.overrun, p.index⟩) h
  · exact h
  · exact h
  · exact h

theorem bounded_rejoinToNone (h : s.Bounded) : State.Bounded (rejoinToNone s) := bounded_mapPort _ (fun _ p => ⟨p.overrun, p.index⟩) (bounded_rejoin h)

theorem bounded_expireRejoinDelay (h : s.Bounded) : State.Bounded (expireRejoinDelay s) := by
  grind [expireRejoinDelay, bounded_rejoinToNone]

/-! The supervisory port -/

theorem bounded_refuseLocked (h : s.Bounded) : State.Bounded (refuseLocked s) := bounded_recordOwn _ _ _ (bounded_setEvent _ (bounded_complete _ _ h))

theorem bounded_whenUnlocked (f : State → State) (hf : ∀ {s : State}, s.Bounded → (f s).Bounded) (h : s.Bounded) :
    State.Bounded (whenUnlocked f s) := by
  unfold whenUnlocked
  split
  · exact hf h
  · exact bounded_refuseLocked h

theorem bounded_whenRunning (f : State → State) (hf : ∀ {s : State}, s.Bounded → (f s).Bounded) (h : s.Bounded) :
    State.Bounded (whenRunning f s) := by
  unfold whenRunning
  split
  · exact hf h
  · exact bounded_complete _ _ h

theorem bounded_queueCommandNotice (n : Notice) (h : s.Bounded) : State.Bounded (queueCommandNotice n s) := by
  grind [queueCommandNotice, bounded_offer, bounded_complete]

theorem bounded_commandAcka (v : Vector Byte 16) (h : s.Bounded) : State.Bounded (commandAcka v s) :=
  bounded_whenRunning _ (fun h => by grind [bounded_queueCommandNotice, bounded_complete]) h

theorem bounded_commandAckp (v : Vector Byte 16) (h : s.Bounded) : State.Bounded (commandAckp v s) :=
  bounded_whenRunning _ (fun h => by grind [bounded_queueCommandNotice, bounded_complete]) h

theorem bounded_commandRsta (v : Vector Byte 16) (h : s.Bounded) : State.Bounded (commandRsta v s) :=
  bounded_whenRunning _ (fun h => by grind [bounded_queueCommandNotice, bounded_complete]) (bounded_localReset h)

theorem bounded_commandShlv (v : Vector Byte 16) (h : s.Bounded) : State.Bounded (commandShlv v s) :=
  bounded_whenUnlocked _ (fun h => bounded_whenRunning _
    (fun h => by grind [bounded_queueCommandNotice, bounded_complete]) h) h

theorem bounded_commandUnsh (v : Vector Byte 16) (h : s.Bounded) : State.Bounded (commandUnsh v s) :=
  bounded_whenUnlocked _ (fun h => bounded_whenRunning _
    (fun h => by grind [bounded_queueCommandNotice, bounded_complete]) h) h

theorem bounded_commandSiln (h : s.Bounded) : State.Bounded (commandSiln s) := bounded_complete _ _ (bounded_silenceAction h)

theorem bounded_commandTest (v : Vector Byte 16) (h : s.Bounded) : State.Bounded (commandTest v s) := by
  grind [commandTest, bounded_complete, bounded_startLampTest]

theorem bounded_commandClrh (h : s.Bounded) : State.Bounded (commandClrh s) :=
  bounded_whenUnlocked _ (fun h => bounded_complete _ _
    { h with history := ⟨Nat.zero_le _, Nat.zero_le _⟩ }) h

theorem bounded_restartDelay (n : Nat) (h : s.Bounded) : State.Bounded (restartDelay n s) := bounded_mapPort _ (fun _ p => ⟨p.overrun, p.index⟩) h

theorem bounded_commandIsol (v : Vector Byte 16) (h : s.Bounded) : State.Bounded (commandIsol v s) :=
  bounded_whenUnlocked _ (fun h => by grind [bounded_complete, bounded_enterIsolated, bounded_restartDelay]) h

theorem bounded_commandRjon (h : s.Bounded) : State.Bounded (commandRjon s) := by
  grind [commandRjon, bounded_complete, bounded_rejoinToNone]

theorem bounded_commandLkey (v : Vector Byte 16) (h : s.Bounded) : State.Bounded (commandLkey v s) := by
  unfold commandLkey
  dsimp only
  split
  · exact bounded_complete _ _ (bounded_mapPort _ (fun _ p => ⟨p.overrun, p.index⟩) h)
  · exact bounded_complete _ _ h

theorem bounded_handleCommand (c : CommandCode) (v : Vector Byte 16) (h : s.Bounded) :
    State.Bounded (handleCommand c v s) := by
  cases c
  · exact bounded_commandAcka _ h
  · exact bounded_commandAckp _ h
  · exact bounded_commandRsta _ h
  · exact bounded_commandShlv _ h
  · exact bounded_commandUnsh _ h
  · exact bounded_commandSiln h
  · exact bounded_commandTest _ h
  · exact bounded_commandClrh h
  · exact bounded_commandIsol _ h
  · exact bounded_commandRjon h
  · exact bounded_commandLkey _ h
  · exact h

theorem bounded_takeCommand (c : CommandCode) (h : s.Bounded) : State.Bounded (takeCommand c s) := bounded_mapPort _ (fun _ p => ⟨Nat.zero_le _, p.index⟩) h

theorem bounded_startCommand (c : CommandCode) (h : s.Bounded) : State.Bounded (startCommand c s) := by
  grind [startCommand, bounded_complete, bounded_takeCommand, bounded_handleCommand]

theorem bounded_abortNoticeCommand (h : s.Bounded) : State.Bounded (abortNoticeCommand s) := by
  unfold abortNoticeCommand
  split
  · exact h
  · split
    · exact bounded_mapPort _ (fun _ p => ⟨p.overrun, p.index⟩) h
    · exact bounded_withdrawCommandNotice h

theorem bounded_abort (h : s.Bounded) : State.Bounded (abort s) := by
  grind [abort, bounded_abortNoticeCommand, bounded_complete]

theorem bounded_countOverrun (h : s.Bounded) : State.Bounded (countOverrun s) := bounded_mapPort _ (fun _ p => ⟨saturate_le p.overrun, p.index⟩) h

theorem bounded_clearCmdPart (h : s.Bounded) : State.Bounded (clearCmdPart s) := bounded_mapPort _ (fun _ p => ⟨p.overrun, p.index⟩) h

theorem bounded_writeCmd (w : Word32) (h : s.Bounded) : State.Bounded (writeCmd w s) := by
  grind [writeCmd, bounded_clearCmdPart, bounded_abort, bounded_countOverrun, bounded_startCommand, bounded_complete]

theorem RecordObject.size_pos (o : RecordObject) : 0 < o.size := by cases o <;> decide

theorem bounded_loadRecord (h : s.Bounded) : State.Bounded (loadRecord s) := by
  refine bounded_mapPort _ (fun _ p => ⟨p.overrun, ?_⟩) h
  dsimp only
  split
  · assumption
  · exact RecordObject.size_pos _

theorem bounded_setTransaction (t : Transaction) (h : s.Bounded) : State.Bounded (setTransaction t s) :=
  bounded_mapPort _ (fun _ p => ⟨p.overrun, p.index⟩) h

theorem bounded_serve (t : Transaction) (f : State → State) (hf : ∀ {s : State}, s.Bounded → (f s).Bounded)
    (h : s.Bounded) : State.Bounded (serve t f s) := by
  unfold serve
  split
  · exact hf (bounded_setTransaction t h)
  · exact h

/-- What falls inside the application of a frame keeps the ranges. -/
theorem bounded_fallInside (xs : List Inside) : KeptInside State.Bounded (fallInside xs) :=
  keptInside_fallInside (fun a s h => by
    cases a
    · exact bounded_silenceAction h
    · grind [actInside, ackAction, bounded_pressAck]
    · grind [actInside, resetAction, bounded_pressReset, bounded_localReset]
    · exact bounded_serve _ _ (fun h => bounded_writeCmd _ h) h
    · exact bounded_serve _ _ (fun h => bounded_writeCmd _ h) h
    · exact bounded_serve _ _ (fun h => bounded_writeCmd _ h) h
    · exact bounded_serve _ _ (fun h => bounded_loadRecord h) h
    · exact bounded_serve _ _ (fun h => bounded_writeCmd _ h) h
    · exact bounded_serve _ _ (fun h => bounded_mapPort _ (fun _ p => ⟨p.overrun, p.index⟩) h) h) xs

theorem bounded_writeEvents (o : Nat) (v : Byte) (h : s.Bounded) : State.Bounded (writeEvents o v s) :=
  bounded_mapPort _ (fun _ p => ⟨p.overrun, p.index⟩) h

theorem bounded_writeEventmask (o : Nat) (v : Byte) (h : s.Bounded) : State.Bounded (writeEventmask o v s) :=
  bounded_mapPort _ (fun _ p => ⟨p.overrun, p.index⟩) h

theorem bounded_zeroCounters (h : s.Bounded) : State.Bounded (zeroCounters s) :=
  bounded_mapAgreement _ (fun _ _ => Nat.zero_le _)
    (bounded_mapLink _ (fun _ _ => ⟨Nat.zero_le _, Nat.zero_le _, Nat.zero_le _⟩) h)

theorem bounded_writeData (o : Nat) (v : Byte) (h : s.Bounded) : State.Bounded (writeData o v s) :=
  bounded_mapPort _ (fun _ p => ⟨p.overrun, p.index⟩) h

theorem bounded_writeCmdByte (o : Nat) (v : Byte) (h : s.Bounded) : State.Bounded (writeCmdByte o v s) := by
  have h1 := bounded_mapPort (fun p => { p with cmdPart := tableSet p.cmdPart o (some v) }) (fun _ p => ⟨p.overrun, p.index⟩) h
  unfold writeCmdByte
  dsimp only
  split
  · split
    · exact bounded_writeCmd _ h1
    · exact h1
  · exact h1

theorem bounded_writeSelect (o : Byte) (i : BitVec 16) (h : s.Bounded) : State.Bounded (writeSelect o i s) := by
  refine bounded_mapPort _ (fun _ p => ?_) h
  split
  · exact ⟨p.overrun, Nat.mod_lt _ (RecordObject.size_pos _)⟩
  · exact ⟨p.overrun, p.index⟩

theorem bounded_writeSelectByte (o : Nat) (v : Byte) (h : s.Bounded) : State.Bounded (writeSelectByte o v s) := by
  have h1 := bounded_mapPort (fun p => { p with selectPart := tableSet p.selectPart o (some v) }) (fun _ p => ⟨p.overrun, p.index⟩) h
  unfold writeSelectByte
  dsimp only
  split
  · split
    · exact bounded_writeSelect _ _ h1
    · exact h1
  · exact h1

theorem bounded_writeByte (a : Nat) (v : Byte) (h : s.Bounded) : State.Bounded (writeByte a v s) := by
  grind [writeByte, bounded_writeEvents, bounded_writeEventmask, bounded_zeroCounters, bounded_writeCmdByte, bounded_writeData, bounded_writeSelectByte]

/-! Starts and the Configuration Loader -/

theorem bounded_reset : State.reset.Bounded where
  history := ⟨Nat.zero_le _, Nat.zero_le _⟩
  groups := fun h => absurd h (Nat.lt_irrefl 0)
  link := ⟨Nat.zero_le _, Nat.zero_le _, Nat.zero_le _⟩
  port := ⟨Nat.zero_le _, by decide⟩
  panel := ⟨Nat.zero_le _, Nat.zero_le _, Nat.zero_le _, Nat.zero_le _, Nat.zero_le _⟩
  generation := Nat.zero_le _
  lapses := Nat.zero_le _
  inputs := fun p => by
    have : State.reset.input p = .reset := by
      unfold State.input tableGet
      split
      · exact Vector.getElem_replicate _
      · rfl
    rw [this]
    exact ⟨Nat.zero_le _, Nat.zero_le _⟩
  notices := fun _ hq => absurd hq List.not_mem_nil
  loader := ⟨Nat.zero_le _, fun _ => rfl, nofun, nofun⟩

theorem bounded_startValues (l : History) (hl : l.Bounded) (s : State) : State.Bounded (startValues l s) :=
  { bounded_reset with history := hl }

theorem bounded_heldStart (b : Bool) (s : State) : State.Bounded (heldStart b s) :=
  bounded_setTransaction _ (bounded_startValues _ ⟨Nat.zero_le _, Nat.zero_le _⟩ _)

theorem bounded_recordRestart (t : Stamp) (h : s.Bounded) : State.Bounded (recordRestart t s) := by
  unfold recordRestart
  dsimp only
  split
  · exact bounded_recordHistory _ h
  · exact bounded_recordHistory _ (bounded_choices _ h)

theorem bounded_warmRestart (t : Stamp) (h : s.Bounded) : State.Bounded (warmRestart t s) :=
  bounded_startValues _ (bounded_recordRestart t h).history _

theorem bounded_restartIfRequested (h : s.Bounded) : State.Bounded (restartIfRequested s) := by
  grind [restartIfRequested, bounded_warmRestart]

theorem bounded_endTransaction (h : s.Bounded) : State.Bounded (endTransaction s) := bounded_restartIfRequested (bounded_mapPort _ (fun _ p => ⟨p.overrun, p.index⟩) h)

/-- An attempt begins on fewer than three (R182). -/
theorem bounded_beginAttempt (ha : s.loader.attempts < 3) (h : s.Bounded) : State.Bounded (beginAttempt s) :=
  bounded_mapLoader _ (fun l => ⟨ha, nofun, nofun, l.debounce⟩) h

theorem bounded_loadFault (h : s.Bounded) : State.Bounded (loadFault s) :=
  bounded_setEvent _ (bounded_setLinkState _ (bounded_mapLoader _
    (fun l => ⟨l.attempts, nofun, nofun, l.debounce⟩) h))

theorem bounded_restUnused (p : Nat) (h : s.Bounded) : State.Bounded (restUnused s p) := by
  unfold restUnused
  split
  · exact h
  · exact bounded_modifyInput _ _ (fun _ i => ⟨Nat.zero_le _, i.chatter⟩) h

theorem inputConfigOf_debounce {bs : List Byte} {c : InputConfig} (h : inputConfigOf bs = some c) : c.debounce ≤ 15 := by
  unfold inputConfigOf at h
  split at h
  · split at h
    · rw [← Option.some.inj h]; show _ % 16 ≤ 15; omega
    · exact nomatch h
  · exact nomatch h

theorem mem_of_allSome {α : Type} {xs : List (Option α)} {ys : List α} (h : allSome xs = some ys) {y : α} (hy : y ∈ ys) :
    some y ∈ xs := by
  induction xs generalizing ys with
  | nil => rw [← Option.some.inj h] at hy; exact absurd hy List.not_mem_nil
  | cons x xs ih =>
    cases x with
    | none => exact nomatch h
    | some x =>
      simp only [allSome, Option.map_eq_some_iff] at h
      obtain ⟨zs, hz, rfl⟩ := h
      rcases List.mem_cons.mp hy with rfl | hy
      · exact List.mem_cons_self
      · exact List.mem_cons_of_mem _ (ih hz hy)

/-- A valid image has debounce times of 0..15 (R195). -/
theorem imageOf_debounce {bs : List Byte} {i : Image} (h : imageOf bs = some i) : ∀ c ∈ i.inputs, c.debounce ≤ 15 := by
  unfold imageOf at h
  split at h
  · split at h
    · rename_i hi _
      rw [← Option.some.inj h]
      intro c hc
      obtain ⟨b, _, hb⟩ := List.mem_map.mp (mem_of_allSome hi hc)
      exact inputConfigOf_debounce hb
    · exact nomatch h
  · exact nomatch h

theorem bounded_deliverImage (i : Image) (hi : ∀ c ∈ i.inputs, c.debounce ≤ 15) (h : s.Bounded) :
    State.Bounded (deliverImage i s) :=
  bounded_enterListening (foldl_keeps (P := State.Bounded) _ (fun _ p h => bounded_restUnused p h) _ _
    (bounded_mapLoader _ (fun l => ⟨l.attempts, nofun, l.retry, fun j hj => by
      rw [← Option.some.inj hj]; exact hi⟩) h))

theorem bounded_configWaitEnds (h : s.Bounded) : State.Bounded (configWaitEnds s) := by
  unfold configWaitEnds
  split
  · rename_i hw
    exact bounded_beginAttempt (by rw [h.loader.waiting hw]; decide) h
  · exact h

theorem bounded_attemptFails (h : s.Bounded) : State.Bounded (attemptFails s) := by
  unfold attemptFails
  split
  · split
    · rename_i ha
      exact bounded_mapLoader _ (fun l => ⟨l.attempts, l.waiting, fun _ => ha, l.debounce⟩) h
    · exact bounded_loadFault h
  · exact h

theorem bounded_retryWaitEnds (h : s.Bounded) : State.Bounded (retryWaitEnds s) := by
  unfold retryWaitEnds
  split
  · rename_i hr
    exact bounded_beginAttempt (h.loader.retry hr.2) h
  · exact h

theorem bounded_readCompletes (v : Vector Byte 256) (h : s.Bounded) : State.Bounded (readCompletes v s) := by
  have h1 := bounded_mapLoader (fun l => { l with buffer := v, state := .checking })
    (fun l => ⟨l.attempts, nofun, l.retry, l.debounce⟩) h
  unfold readCompletes
  dsimp only
  split
  · split
    · rename_i hi
      exact bounded_deliverImage _ (imageOf_debounce hi) h1
    · exact bounded_loadFault h1
  · exact h

end Sys2Proof.Machine
end

