-- ==== Sys2Proof/Laws/Frames.lean ====
section
/-! SUPPORT. The frame of a record event: what the Point Table, the Alarm List, the Group and Zone Unit and the History Log
leave alone, as a relation that composes along a chain of operations. -/

namespace Sys2Proof.Machine

open Sys2Proof

/-- The second state differs from the first in the tables of points, the list, the groups, the Scanner, the log and the
event flags only. -/
structure RecordsOnly (s t : State) : Prop where
  pending : t.pending = s.pending
  choices : t.choices = s.choices
  supply : t.supply = s.supply
  powerHold : t.powerHold = s.powerHold
  resetnLow : t.resetnLow = s.resetnLow
  notices : t.notices = s.notices
  link : t.link = s.link
  directory : t.directory = s.directory
  agreement : t.agreement = s.agreement
  panel : t.panel = s.panel
  loader : t.loader = s.loader
  port : t.port = { s.port with events := t.port.events }

theorem RecordsOnly.refl (s : State) : RecordsOnly s s := ⟨rfl, rfl, rfl, rfl, rfl, rfl, rfl, rfl, rfl, rfl, rfl, rfl⟩

theorem RecordsOnly.trans {s t u : State} (h : RecordsOnly s t) (k : RecordsOnly t u) : RecordsOnly s u :=
  ⟨k.pending.trans h.pending, k.choices.trans h.choices, k.supply.trans h.supply, k.powerHold.trans h.powerHold,
    k.resetnLow.trans h.resetnLow, k.notices.trans h.notices, k.link.trans h.link, k.directory.trans h.directory,
    k.agreement.trans h.agreement, k.panel.trans h.panel, k.loader.trans h.loader, by rw [k.port, h.port]⟩

theorem RecordsOnly.foldl {α : Type} (f : State → α → State) (h : ∀ s x, RecordsOnly s (f s x)) (xs : List α) (s : State) :
    RecordsOnly s (xs.foldl f s) := by
  induction xs generalizing s with
  | nil => exact .refl s
  | cons x xs ih => exact (h s x).trans (ih _)

/-! Primitive changes -/

theorem records_setRecord (id : PointId) (r : PointRecord) (s : State) : RecordsOnly s (s.setRecord id r) :=
  ⟨rfl, rfl, rfl, rfl, rfl, rfl, rfl, rfl, rfl, rfl, rfl, rfl⟩

theorem records_modifyRecord (id : PointId) (f : PointRecord → PointRecord) (s : State) :
    RecordsOnly s (s.modifyRecord id f) := ⟨rfl, rfl, rfl, rfl, rfl, rfl, rfl, rfl, rfl, rfl, rfl, rfl⟩

theorem records_modifyInput (p : Nat) (f : InputState → InputState) (s : State) : RecordsOnly s (s.modifyInput p f) :=
  ⟨rfl, rfl, rfl, rfl, rfl, rfl, rfl, rfl, rfl, rfl, rfl, rfl⟩

theorem records_mapList (f : AlarmList → AlarmList) (s : State) : RecordsOnly s (s.mapList f) :=
  ⟨rfl, rfl, rfl, rfl, rfl, rfl, rfl, rfl, rfl, rfl, rfl, rfl⟩

theorem records_mapGroups (f : GroupUnit → GroupUnit) (s : State) : RecordsOnly s (s.mapGroups f) :=
  ⟨rfl, rfl, rfl, rfl, rfl, rfl, rfl, rfl, rfl, rfl, rfl, rfl⟩

theorem records_setEvent (e : Event) (s : State) : RecordsOnly s (setEvent e s) :=
  ⟨rfl, rfl, rfl, rfl, rfl, rfl, rfl, rfl, rfl, rfl, rfl, rfl⟩

theorem records_recordHistory (e : HistoryEntry) (s : State) : RecordsOnly s (recordHistory e s) := by
  rw [recordHistory_eq]
  exact ⟨rfl, rfl, rfl, rfl, rfl, rfl, rfl, rfl, rfl, rfl, rfl, rfl⟩

theorem records_recordOwn (k : HistoryKind) (t : Stamp) (n : Option Nat) (s : State) : RecordsOnly s (recordOwn k t n s) := records_recordHistory _ _

/-! The Alarm List -/

theorem records_bumpGeneration (s : State) : RecordsOnly s (bumpGeneration s) := (records_mapList _ _).trans (records_setEvent _ _)

theorem records_listInsert (id : PointId) (s : State) : RecordsOnly s (listInsert id s) := (records_mapList _ _).trans (records_bumpGeneration _)

theorem records_listRemove (id : PointId) (s : State) : RecordsOnly s (listRemove id s) := (records_mapList _ _).trans (records_bumpGeneration _)

theorem records_setUnlisted (id : PointId) (s : State) : RecordsOnly s (setUnlisted id s) := 
  (records_modifyRecord _ _ _).trans (records_mapList _ _)

theorem records_clearUnlisted (id : PointId) (s : State) : RecordsOnly s (clearUnlisted id s) := by
  unfold clearUnlisted
  split
  · exact (records_modifyRecord _ _ _).trans (records_mapList _ _)
  · exact .refl s

theorem records_recordOverflow (id : PointId) (t : Stamp) (s : State) : RecordsOnly s (recordOverflow id t s) := records_recordHistory _ _

theorem records_evict (v id : PointId) (t : Stamp) (s : State) : RecordsOnly s (evict v id t s) := 
  (((records_listRemove _ _).trans (records_setUnlisted _ _)).trans (records_listInsert _ _)).trans
    (records_recordOverflow _ _ _)

theorem records_refuse (id : PointId) (t : Stamp) (s : State) : RecordsOnly s (refuse id t s) := 
  (records_setUnlisted _ _).trans (records_recordOverflow _ _ _)

theorem records_listEnter (id : PointId) (t : Stamp) (s : State) : RecordsOnly s (listEnter id t s) := by
  unfold listEnter
  split
  · exact records_listInsert _ _
  · split
    · split
      · exact records_evict _ _ _ _
      · exact records_refuse _ _ _
    · exact records_refuse _ _ _

theorem records_listAdmit (s : State) : RecordsOnly s (listAdmit s) := by
  unfold listAdmit
  split
  · split
    · exact (records_clearUnlisted _ _).trans (records_listInsert _ _)
    · exact .refl s
  · exact .refl s

theorem records_listMove (id : PointId) (s : State) : RecordsOnly s (listMove id s) := (records_mapList _ _).trans (records_bumpGeneration _)

theorem records_listFollow (r : Report) (s : State) : RecordsOnly s (listFollow r s) := by
  unfold listFollow
  dsimp only
  split
  · split
    · exact .refl s
    · exact records_listEnter _ _ _
  · split
    · split
      · exact (records_listRemove _ _).trans (records_listAdmit _)
      · exact records_clearUnlisted _ _
    · split
      · have h : RecordsOnly s (if r.before.alert ≠ r.after.alert then listMove r.id s else s) := by
          split
          · exact records_listMove _ _
          · exact .refl s
        split
        · exact h.trans (records_bumpGeneration _)
        · exact h
      · exact .refl s

theorem records_listRecompute (s : State) : RecordsOnly s (listRecompute s) := by
  unfold listRecompute
  refine RecordsOnly.trans (RecordsOnly.trans (RecordsOnly.trans (RecordsOnly.foldl _ (fun s id => ?_) _ s)
    (records_mapList _ _)) (records_mapList _ _)) (records_bumpGeneration _)
  split
  · exact records_modifyRecord _ _ _
  · exact .refl s

/-! The Group and Zone Unit -/

theorem records_setHolder (g : Nat) (p : Option PointId) (s : State) : RecordsOnly s (setHolder g p s) := records_mapGroups _ _

theorem records_setFirstOut (id : PointId) (b : Bool) (s : State) : RecordsOnly s (setFirstOut id b s) := records_modifyRecord _ _ _

theorem records_firstOutMark (r : Report) (s : State) : RecordsOnly s (firstOutMark r s) := by
  unfold firstOutMark
  dsimp only
  split
  · exact (records_setFirstOut _ _ _).trans (records_setHolder _ _ _)
  · exact .refl s

theorem records_releaseGroup (id : PointId) (g : Nat) (s : State) : RecordsOnly s (releaseGroup id s g) := by
  unfold releaseGroup
  split
  · exact records_setHolder _ _ _
  · exact .refl s

theorem records_firstOutRelease (id : PointId) (s : State) : RecordsOnly s (firstOutRelease id s) := by
  unfold firstOutRelease
  exact RecordsOnly.foldl _ (fun s g => records_releaseGroup id g s) _ s

theorem records_firstOutClaim (id : PointId) (s : State) : RecordsOnly s (firstOutClaim id s) := by
  unfold firstOutClaim
  dsimp only
  split
  · exact records_setHolder _ _ _
  · split
    · exact .refl s
    · split
      · exact (records_setFirstOut _ _ _).trans (records_setHolder _ _ _)
      · exact records_setFirstOut _ _ _

theorem records_firstOutReplace (r : Report) (s : State) : RecordsOnly s (firstOutReplace r s) := by
  unfold firstOutReplace
  split
  · exact (records_firstOutRelease _ _).trans (records_firstOutClaim _ _)
  · exact .refl s

theorem records_groupsRecompute (s : State) : RecordsOnly s (groupsRecompute s) := by
  unfold groupsRecompute
  refine RecordsOnly.trans (records_mapGroups _ _) (RecordsOnly.foldl _ (fun s id => ?_) _ _)
  split
  · exact records_firstOutClaim _ _
  · exact .refl s

theorem records_modifyZone (z : Nat) (f : ZoneSummary → ZoneSummary) (s : State) : RecordsOnly s (modifyZone z f s) := records_mapGroups _ _

theorem records_zoneFollow (r : Report) (s : State) : RecordsOnly s (zoneFollow r s) := by
  unfold zoneFollow
  split
  · exact .refl s
  · exact records_modifyZone _ _ _

theorem records_setDemand (n : Nat) (s : State) : RecordsOnly s (setDemand n s) := records_mapGroups _ _

theorem records_demandFollow (r : Report) (s : State) : RecordsOnly s (demandFollow r s) := by
  unfold demandFollow
  dsimp only
  split
  · exact .refl s
  · exact records_setDemand _ _

theorem records_localReset (s : State) : RecordsOnly s (localReset s) := by
  unfold localReset
  split
  · exact records_mapGroups _ _
  · exact .refl s

theorem records_groupsFollow (r : Report) (s : State) : RecordsOnly s (groupsFollow r s) := 
  (((records_zoneFollow _ _).trans (records_demandFollow _ _)).trans (records_firstOutMark _ _)).trans
    ((records_firstOutReplace _ _).trans (records_firstOutRelease _ _))

theorem records_leaveZone (k : Nat) (s : State) : RecordsOnly s (leaveZone k s) := by
  unfold leaveZone
  split
  · exact records_modifyZone _ _ _
  · exact .refl s

theorem records_joinZone (k z : Nat) (s : State) : RecordsOnly s (joinZone k z s) := records_modifyZone _ _ _

theorem records_moveCauses (k : Nat) (o n : Option Nat) (s : State) : RecordsOnly s (moveCauses k o n s) := by
  unfold moveCauses
  split
  · exact .refl s
  · exact records_setDemand _ _

theorem records_adjustLost (k : Nat) (b : Bool) (s : State) : RecordsOnly s (adjustLost k b s) := by
  unfold adjustLost
  split
  · exact .refl s
  · exact records_modifyZone _ _ _

/-! Reports -/

theorem records_historyFollow (r : Report) (s : State) : RecordsOnly s (historyFollow r s) := by
  have h : RecordsOnly s (match pointEntry r with
      | some e => if s.inView r.id then recordHistory e s else s
      | none => s) := by
    split
    · split
      · exact records_recordHistory _ _
      · exact .refl s
    · exact .refl s
  unfold historyFollow
  dsimp only
  split
  · exact h.trans (records_recordHistory _ _)
  · exact h

theorem records_newAlertFollow (r : Report) (s : State) : RecordsOnly s (newAlertFollow r s) := by
  unfold newAlertFollow
  split
  · exact records_setEvent _ _
  · exact .refl s

theorem records_announceFollow (r : Report) (s : State) : RecordsOnly s (announceFollow r s) := by
  unfold announceFollow
  split
  · exact records_modifyInput _ _ _
  · exact .refl s

theorem records_deliver (r : Report) (s : State) : RecordsOnly s (deliver r s) := 
  ((((records_historyFollow _ _).trans (records_listFollow _ _)).trans (records_groupsFollow _ _)).trans
    (records_newAlertFollow _ _)).trans (records_announceFollow _ _)

theorem records_recordEvent (id : PointId) (e : RecordEvent) (t : Stamp) (a : Option Nat)
    (c : PointRecord → PointRecord × ReportOutcome) (s : State) : RecordsOnly s (recordEvent id e t a c s).1 := by
  unfold recordEvent recordEventWith
  exact (records_setRecord _ _ _).trans (records_deliver _ _)

theorem records_recordEventInTreatment (id : PointId) (e : RecordEvent) (t : Stamp) (a : Option Nat)
    (c : PointRecord → PointRecord × ReportOutcome) (s : State) :
    RecordsOnly s (recordEventWith deliverInTreatment id e t a c s).1 := by
  unfold recordEventWith deliverInTreatment
  dsimp only
  exact (records_setRecord _ _ _).trans (records_groupsFollow _ _)

theorem records_ownerLost (b : Bool) (k : Nat) (t : Stamp) (s : State) : RecordsOnly s (ownerLost b k t s) := by
  unfold ownerLost
  refine RecordsOnly.foldl _ (fun s id => ?_) _ s
  split
  · exact .refl s
  · exact records_recordEvent _ _ _ _ _ s

theorem records_clearOwnerLost (k : Nat) (s : State) : RecordsOnly s (clearOwnerLost k s) := by
  unfold clearOwnerLost
  split
  · exact .refl s
  · exact records_ownerLost _ _ _ s

theorem records_treatRecords (c : Nat) (s : State) : RecordsOnly s (treatRecords c s) := by
  unfold treatRecords
  exact (RecordsOnly.foldl _ (fun _ _ => records_recordEventInTreatment _ _ _ _ _ _) _ _).trans
    (RecordsOnly.foldl _ (fun _ _ => records_recordEventInTreatment _ _ _ _ _ _) _ _)

theorem records_linkLostRaise (k : Nat) (t : Stamp) (s : State) : RecordsOnly s (linkLostRaise k t s) := records_recordEvent _ _ _ _ _ _

theorem records_linkLostClear (k : Nat) (t : Stamp) (s : State) : RecordsOnly s (linkLostClear k t s) := records_recordEvent _ _ _ _ _ _

end Sys2Proof.Machine
end

