-- ==== Sys2Proof/Laws/Modes.lean ====
section
/-! SUPPORT. Each operation keeps `State.Consistent`. Most leave everything it speaks of alone (`SameMode`); those that
change the queue, the link state, the loader or the modal state are treated one by one. -/

namespace Sys2Proof.Machine

open Sys2Proof

/-- The queue, the link state, the loader, the held panel notices and the modal state are as before. -/
structure SameMode (s t : State) : Prop where
  notices : t.notices = s.notices
  state : t.link.state = s.link.state
  loader : t.loader = s.loader
  heldAck : t.panel.heldAck = s.panel.heldAck
  heldReset : t.panel.heldReset = s.panel.heldReset
  modal : t.port.modal = s.port.modal

theorem SameMode.refl (s : State) : SameMode s s := ⟨rfl, rfl, rfl, rfl, rfl, rfl⟩

theorem SameMode.trans {s t u : State} (h : SameMode s t) (k : SameMode t u) : SameMode s u :=
  ⟨k.notices.trans h.notices, k.state.trans h.state, k.loader.trans h.loader, k.heldAck.trans h.heldAck,
    k.heldReset.trans h.heldReset, k.modal.trans h.modal⟩

theorem SameMode.of_records {s t : State} (h : RecordsOnly s t) : SameMode s t :=
  ⟨h.notices, by rw [h.link], h.loader, by rw [h.panel], by rw [h.panel], by rw [h.port]⟩

theorem SameMode.foldl {α : Type} (f : State → α → State) (h : ∀ s x, SameMode s (f s x)) (xs : List α) (s : State) :
    SameMode s (xs.foldl f s) := by
  induction xs generalizing s with
  | nil => exact .refl s
  | cons x xs ih => exact (h s x).trans (ih _)

theorem SameMode.inTurn (ops : List (State → State)) (h : ∀ f ∈ ops, ∀ s, SameMode s (f s)) (s : State) :
    SameMode s (inTurn ops s) := by
  induction ops generalizing s with
  | nil => exact .refl s
  | cons f fs ih => exact (h f List.mem_cons_self s).trans (ih (fun g hg => h g (List.mem_cons_of_mem _ hg)) _)

theorem SameMode.inEitherOrder (ops : List (State → State)) (h : ∀ f ∈ ops, ∀ s, SameMode s (f s)) (s : State) :
    SameMode s (inEitherOrder ops s) := by
  unfold Machine.inEitherOrder
  split
  · exact SameMode.inTurn ops h s
  · exact SameMode.trans (t := { s with choices := s.choices + 1 }) ⟨rfl, rfl, rfl, rfl, rfl, rfl⟩
      (SameMode.inTurn _ (fun f hf => h f ((permute_perm _ ops).mem_iff.mp hf)) _)

/-- What `State.Consistent` speaks of is unchanged. -/
theorem State.Consistent.of_same {s t : State} (h : s.Consistent) (k : SameMode s t) : t.Consistent :=
  ⟨k.notices ▸ h.places, k.notices ▸ k.state ▸ h.quiet, k.loader ▸ k.state ▸ h.loaded, k.loader ▸ h.image,
    by rw [k.state, k.heldAck, k.heldReset]; exact h.held, by rw [k.state, k.modal]; exact h.modal⟩

/-! Operations that leave the modes alone -/

theorem same_choices (n : Nat) (s : State) : SameMode s { s with choices := n } := ⟨rfl, rfl, rfl, rfl, rfl, rfl⟩

theorem same_modifyEntry (k : Nat) (f : DirEntry → DirEntry) (s : State) : SameMode s (s.modifyEntry k f) :=
  ⟨rfl, rfl, rfl, rfl, rfl, rfl⟩

theorem same_mapAgreement (f : Agreement → Agreement) (s : State) : SameMode s (s.mapAgreement f) :=
  ⟨rfl, rfl, rfl, rfl, rfl, rfl⟩

theorem same_mapLink (f : Link → Link) (s : State) (hf : ∀ l, (f l).state = l.state := by intro l; rfl) : SameMode s (s.mapLink f) :=
  ⟨rfl, hf _, rfl, rfl, rfl, rfl⟩

theorem same_mapPort (f : Port → Port) (s : State) (hf : ∀ p, (f p).modal = p.modal := by intro p; rfl) : SameMode s (s.mapPort f) :=
  ⟨rfl, rfl, rfl, rfl, rfl, hf _⟩

theorem same_setEvent (e : Event) (s : State) : SameMode s (setEvent e s) := ⟨rfl, rfl, rfl, rfl, rfl, rfl⟩

theorem same_recordHistory (e : HistoryEntry) (s : State) : SameMode s (recordHistory e s) :=
  .of_records (records_recordHistory e s)

theorem same_recordOwn (k : HistoryKind) (t : Stamp) (n : Option Nat) (s : State) : SameMode s (recordOwn k t n s) :=
  same_recordHistory _ s

theorem same_complete (r : CommandResult) (out : List Byte) (s : State) : SameMode s (complete r out s) :=
  ⟨rfl, rfl, rfl, rfl, rfl, rfl⟩

theorem same_recordEvent (id : PointId) (e : RecordEvent) (t : Stamp) (a : Option Nat)
    (c : PointRecord → PointRecord × ReportOutcome) (s : State) : SameMode s (recordEvent id e t a c s).1 :=
  .of_records (records_recordEvent id e t a c s)

theorem same_countFrameError (s : State) : SameMode s (countFrameError s) := ⟨rfl, rfl, rfl, rfl, rfl, rfl⟩

theorem same_countSlip (s : State) : SameMode s (countSlip s) := ⟨rfl, rfl, rfl, rfl, rfl, rfl⟩

theorem same_setCurrent (t : Stamp) (s : State) : SameMode s (setCurrent t s) := ⟨rfl, rfl, rfl, rfl, rfl, rfl⟩

theorem same_setListOwed (b : Bool) (s : State) : SameMode s (setListOwed b s) := ⟨rfl, rfl, rfl, rfl, rfl, rfl⟩

theorem same_discardEffect (q : QueuedNotice) (s : State) : SameMode s (discardEffect q s) := by
  have h : SameMode s (if q.cmdMark then complete .aborted [] s else s) := by
    split
    · exact same_complete _ _ s
    · exact .refl s
  unfold discardEffect
  dsimp only
  split
  · exact h.trans (same_modifyEntry _ _ _)
  · exact h

theorem same_discardEffects (qs : List QueuedNotice) (s : State) : SameMode s (discardEffects qs s) := by
  unfold discardEffects
  exact SameMode.foldl _ (fun s q => same_discardEffect q s) _ s

theorem same_emptyWaitSet (s : State) : SameMode s (emptyWaitSet s) := by
  unfold emptyWaitSet
  exact SameMode.foldl _ (fun s _ => same_modifyEntry _ _ s) _ s

theorem same_endOwnSlot (s : State) : SameMode s (endOwnSlot s) := ⟨rfl, rfl, rfl, rfl, rfl, rfl⟩

theorem same_formWaitSet (s : State) : SameMode s (formWaitSet s) := by
  unfold formWaitSet
  refine SameMode.foldl _ (fun s k => ?_) _ s
  split
  · exact same_modifyEntry _ _ s
  · exact .refl s

theorem same_applyJoin (o n : Bool) (s : State) : SameMode s (applyJoin o n s) := by
  have h : SameMode s (if n then setListOwed true s else s) := by
    split
    · exact same_setListOwed _ s
    · exact .refl s
  unfold applyJoin
  split
  · exact h
  · extract_lets s1 s2
    have k : SameMode s s2 := h.trans (same_mapLink _ s1)
    split
    · split
      · exact k.trans (same_formWaitSet s2)
      · exact k
    · exact h
  all_goals exact .refl s

theorem same_applyResyncRequest (o : Bool) (t : Nat) (s : State) : SameMode s (applyResyncRequest o t s) := by
  have h : SameMode s (if t = s.own ∧ s.link.state.sends then setListOwed true s else s) := by
    split
    · exact same_setListOwed _ s
    · exact .refl s
  unfold applyResyncRequest
  extract_lets s1
  split
  · exact h.trans (same_modifyEntry _ _ s1)
  · exact h

theorem consistent_recordEvents {d : During} (hd : KeptInside State.Consistent d) (n : Nat) (e : RecordEvent) (t : Stamp)
    (a : Option Nat) (c : PointRecord → PointRecord × ReportOutcome) (i : Nat) (ids : List PointId) {s : State}
    (h : s.Consistent) : State.Consistent (recordEvents d n e t a c i ids s).1 :=
  recordEvents_keeps hd n e t a c (fun _ _ h => h.of_same (same_recordEvent _ _ _ _ _ _)) i ids h

theorem consistent_applyNotice {d : During} (hd : KeptInside State.Consistent d) (k : Nat) (o : Bool) (t : Stamp)
    (n : Notice) {s : State} (h : s.Consistent) : State.Consistent (applyNotice k o t n s d).1 := by
  cases n
  · exact h.of_same (same_recordEvent _ _ _ _ _ s)
  · exact h.of_same (same_recordEvent _ _ _ _ _ s)
  · exact (consistent_recordEvents hd _ _ _ _ _ _ _ h).of_same (same_recordHistory _ _)
  · exact h.of_same (same_recordEvent _ _ _ _ _ s)
  · exact (consistent_recordEvents hd _ _ _ _ _ _ _ h).of_same (same_recordHistory _ _)
  · exact h.of_same (same_recordEvent _ _ _ _ _ s)
  · exact h.of_same (same_recordEvent _ _ _ _ _ s)
  · exact h.of_same (same_applyJoin _ _ s)
  · exact h.of_same (same_applyResyncRequest _ _ s)

theorem same_completeApplied (t : Stamp) (r : NoticeResult) (s : State) : SameMode s (completeApplied t r s) := by
  unfold completeApplied
  split
  · exact .refl s
  · split <;> exact same_complete _ _ s

theorem same_silenceAction (s : State) : SameMode s (silenceAction s) := ⟨rfl, rfl, rfl, rfl, rfl, rfl⟩

theorem same_clearOwnerLost (k : Nat) (s : State) : SameMode s (clearOwnerLost k s) := by
  exact .of_records (records_clearOwnerLost k s)

theorem consistent_applyOwnedList {d : During} (hd : KeptInside State.Consistent d) (k : Nat) (es : List ListEntry)
    {s : State} (h : s.Consistent) : State.Consistent (applyOwnedList d k es s) := by
  unfold applyOwnedList
  extract_lets stamp r s1 s2 s3 s4
  have h0 : r.1.Consistent := applyReplacements_keeps hd k stamp (fun _ _ _ _ h => h.of_same (same_recordEvent _ _ _ _ _ _)) 0
    es (hd _ _ (h.of_same (same_setCurrent stamp s)))
  have h1 : SameMode r.1 s1 := same_modifyEntry k _ _
  have h2 : SameMode r.1 s2 := by
    refine h1.trans ?_
    show SameMode s1 (match s1.agreement.deferred with
      | some (d, _) => if d = k then s1.mapAgreement (fun a => { a with deferred := none }) else s1
      | none => s1)
    split
    · split
      · exact same_mapAgreement _ _
      · exact .refl _
    · exact .refl _
  have h3 : SameMode r.1 s3 := h2.trans (same_clearOwnerLost k s2)
  have h4 : SameMode r.1 s4 := by
    refine h3.trans ?_
    show SameMode s3 (if s3.link.state = .joining then s3.modifyEntry k (fun e => { e with joinWait := none }) else s3)
    split
    · exact same_modifyEntry _ _ _
    · exact .refl _
  exact h0.of_same ((h4.trans (same_recordHistory _ _)).trans (same_setEvent _ _))

theorem same_takeZone (k z : Nat) (s : State) : SameMode s (takeZone k z s) := by
  unfold takeZone
  split
  · exact .refl s
  · exact (((SameMode.of_records (records_leaveZone k s)).trans (.of_records (records_joinZone k z _))).trans
      (same_modifyEntry _ _ _)).trans (.of_records (records_moveCauses _ _ _ _))

theorem same_dropRequests (s : State) : SameMode s (dropRequests s) := by
  unfold dropRequests
  exact SameMode.foldl _ (fun s _ => same_modifyEntry _ _ s) _ s

theorem same_unsilence (s : State) : SameMode s (unsilence s) := ⟨rfl, rfl, rfl, rfl, rfl, rfl⟩

theorem same_tableTreatment (c : Nat) (s : State) : SameMode s (tableTreatment c s) := by
  unfold tableTreatment
  exact (((((((same_mapAgreement _ s).trans (.of_records (records_treatRecords c _))).trans (same_dropRequests _)).trans
    (.of_records (records_listRecompute _))).trans (.of_records (records_groupsRecompute _))).trans
    (same_unsilence _)).trans (same_recordOwn _ _ _ _)).trans (same_mapAgreement _ _)

theorem same_ownInitialisation (c : Nat) (s : State) : SameMode s (ownInitialisation c s) := by
  unfold ownInitialisation
  exact (SameMode.foldl _ (fun s _ => same_recordEvent _ _ _ _ _ s) _ s).trans (same_mapLink _ _)

theorem same_becomeLost (k : Nat) (t : Stamp) (s : State) : SameMode s (becomeLost k t s) := by
  have h2 := ((same_modifyEntry k (fun e => { e with liveness := .lost, joinWait := none }) s).trans
    (.of_records (records_adjustLost k true _))).trans (same_setEvent .stalost _)
  have hr : ∀ s, SameMode s (ownerLost true k t (linkLostRaise k t s)) := fun s =>
    .of_records ((records_linkLostRaise _ _ s).trans (records_ownerLost _ _ _ _))
  unfold becomeLost
  dsimp only
  split
  · exact (h2.trans (hr _)).trans (same_recordHistory _ _)
  · refine h2.trans (SameMode.inEitherOrder _ ?_ _)
    simp only [List.mem_cons, List.not_mem_nil, or_false]
    rintro f (rfl | rfl) s
    · exact hr s
    · exact same_recordHistory _ s

theorem same_directorySilent (k : Nat) (t : Stamp) (s : State) : SameMode s (directorySilent k t s) := by
  unfold directorySilent
  split
  · exact same_modifyEntry _ _ s
  · exact same_modifyEntry _ _ s
  · exact same_becomeLost _ _ s
  · exact .refl s
  · exact .refl s

theorem same_leaveLost (k : Nat) (t : Stamp) (s : State) : SameMode s (leaveLost k t s) := 
  ((((same_modifyEntry _ _ s).trans (.of_records (records_adjustLost _ _ _))).trans
    (.of_records (records_linkLostClear _ _ _))).trans (same_recordHistory _ _)).trans (same_setEvent _ _)

theorem same_joinWaitSet (k : Nat) (s : State) : SameMode s (joinWaitSet k s) := by
  unfold joinWaitSet
  split
  · exact same_modifyEntry _ _ s
  · exact .refl s

theorem same_directoryHeader (f : SlotFrame) (c : Nat) (s : State) : SameMode s (directoryHeader f c s) := by
  have h1 := same_modifyEntry f.sender (fun e => { e with lastCycle := some c, digest := some f.digest }) s
  have h2 : ∀ t, SameMode s t → SameMode s (if 1 ≤ f.zone ∧ f.zone ≤ 8 then takeZone f.sender f.zone t else t) := by
    intro t h
    split
    · exact h.trans (same_takeZone _ _ _)
    · exact h
  have h2 := h2 _ h1
  unfold directoryHeader
  dsimp only
  split
  · exact ((h2.trans (same_modifyEntry _ _ _)).trans (same_setEvent _ _)).trans (same_joinWaitSet _ _)
  · exact (h2.trans (same_leaveLost _ _ _)).trans (same_joinWaitSet _ _)
  · exact h2
  · exact h2.trans (same_modifyEntry _ _ _)
  · exact h2.trans (same_modifyEntry _ _ _)

theorem same_startFrame (s : State) : SameMode s (startFrame s) := ⟨rfl, rfl, rfl, rfl, rfl, rfl⟩

theorem same_ensureStarted (s : State) : SameMode s (ensureStarted s) := by
  unfold ensureStarted
  split
  · exact same_startFrame s
  · exact .refl s

theorem same_beginSlot (k : Nat) (s : State) : SameMode s (beginSlot k s) := ⟨rfl, rfl, rfl, rfl, rfl, rfl⟩

theorem same_beginMarkPhase (s : State) : SameMode s (beginMarkPhase s) := same_mapLink _ s

theorem same_endUnreadFrame (s : State) : SameMode s (endUnreadFrame s) := by
  have h1 := same_mapLink (fun l => { l with reception := .idle }) s
  unfold endUnreadFrame
  dsimp only
  split
  · exact h1.trans (same_mapLink _ _)
  · exact (h1.trans (same_mapLink _ _)).trans (same_beginSlot _ _)
  · exact h1

theorem same_endInvalidFrame (s : State) : SameMode s (endInvalidFrame s) := by
  unfold endInvalidFrame
  dsimp only
  split
  · exact (same_countFrameError s).trans (same_mapLink _ _)
  · exact ((same_countFrameError s).trans (same_ensureStarted _)).trans (same_endUnreadFrame _)

theorem same_presetSlot (k : Nat) (s : State) : SameMode s (presetSlot k s) := by
  unfold presetSlot
  refine SameMode.trans ?_ (same_mapLink _ _)
  split
  · exact same_countSlip s
  · exact .refl s

theorem same_presetMark (o : Bool) (s : State) : SameMode s (presetMark o s) := by
  unfold presetMark
  refine SameMode.trans ?_ (same_beginSlot _ _)
  split
  · exact .refl s
  · exact same_countSlip s

theorem same_takeCycle (c : Nat) (s : State) : SameMode s (takeCycle c s) := same_mapLink _ s

theorem same_followMark (f : MarkFrame) (s : State) : SameMode s (followMark f s) := by
  have h1 := ((same_presetMark false s).trans (same_takeCycle f.cycle _)).trans (same_beginSlot 1 _)
  unfold followMark
  dsimp only
  split
  · exact h1.trans (same_mapLink _ _)
  · exact h1

theorem consistent_takeOwnedList {d : During} (hd : KeptInside State.Consistent d) (f : ListFrame) {s : State}
    (h : s.Consistent) : State.Consistent (takeOwnedList d f s) := by
  unfold takeOwnedList
  split
  · exact h
  · split
    · exact consistent_applyOwnedList hd _ _ h
    · exact h.of_same (same_countFrameError s)

theorem same_startSending (f : Sending) (s : State) : SameMode s (startSending f s) := (same_startFrame s).trans (same_mapLink _ _)

theorem same_foundersSlot (s : State) : SameMode s (foundersSlot s) := by
  have h1 := same_mapLink (fun l => { l with foundingSlot := false }) s
  unfold foundersSlot
  dsimp only
  split
  · split
    · exact h1.trans (same_tableTreatment _ _)
    · exact h1.trans (same_ownInitialisation _ _)
  · exact h1

theorem same_endSending (s : State) : SameMode s (endSending s) := same_mapLink _ s

theorem same_sendOwnedList (s : State) : SameMode s (sendOwnedList s) := by
  unfold sendOwnedList
  split
  · exact (same_mapLink _ s).trans (same_startSending _ _)
  · exact .refl s

theorem same_expireMarkTimer (s : State) : SameMode s (expireMarkTimer s) := by
  unfold expireMarkTimer
  split
  · exact same_startSending _ s
  · exact .refl s

theorem same_listenWindowEnds (s : State) : SameMode s (listenWindowEnds s) := by
  unfold listenWindowEnds
  split
  · exact same_mapLink _ s
  · exact .refl s

/-! The Notice Queue -/

variable {s : State}

theorem consistent_choices (n : Nat) (h : s.Consistent) : State.Consistent { s with choices := n } :=
  h.of_same ⟨rfl, rfl, rfl, rfl, rfl, rfl⟩

/-- A queue that loses notices, or changes their marks only. -/
theorem consistent_fewer (q : List QueuedNotice) (hl : q.length ≤ s.notices.length) (h : s.Consistent) :
    State.Consistent { s with notices := q } :=
  ⟨Nat.le_trans hl h.places, fun hq => List.eq_nil_of_length_eq_zero (by
      have h0 := h.quiet hq
      rw [h0] at hl
      exact Nat.le_zero.mp hl), h.loaded, h.image, h.held, h.modal⟩

theorem accepts_sends {l : LinkState} {n : Notice} (h : accepts l n = true) : l.sends = true := by
  cases l <;> simp_all [accepts, LinkState.sends]

theorem consistent_offer (n : Notice) (src : Source) (h : s.Consistent) : State.Consistent (offer n src s).1 := by
  rcases offer_cases n src s with ⟨_, e⟩ | ⟨_, e⟩ | ⟨ha, hf, e⟩ <;> rw [e]
  · exact h
  · exact h.of_same (same_setEvent _ s)
  · refine ⟨?_, fun hq => ?_, h.loaded, h.image, h.held, h.modal⟩
    · simp only [State.queueFull, Config.queuePlaces, decide_eq_false_iff_not] at hf
      simp only [appendNotice, List.length_append, List.length_singleton]
      omega
    · have hs := accepts_sends ha
      have hq : s.link.state.sends = false := hq
      rw [hs] at hq
      exact absurd hq (by decide)

theorem same_freeSpaceOffers (s : State) : SameMode s (freeSpaceOffers s).1 := by
  unfold freeSpaceOffers
  extract_lets held
  split
  · exact .refl s
  · exact ⟨rfl, rfl, rfl, rfl, rfl, rfl⟩

theorem consistent_withdrawClear (p : Nat) (h : s.Consistent) : State.Consistent (withdrawClear p s).1 := by
  have h1 : State.Consistent (State.modifyInput { s with notices := s.notices.eraseP (fun q => conditionFor p q = some false) } p
      (fun i => { i with chatter := saturate 255 i.chatter })) :=
    (consistent_fewer _ (List.length_eraseP_le) h).of_same ⟨rfl, rfl, rfl, rfl, rfl, rfl⟩
  unfold withdrawClear
  dsimp only
  split
  · exact h1.of_same (same_freeSpaceOffers _)
  · exact h1

theorem consistent_offerInput (p : Nat) (h : s.Consistent) : State.Consistent (offerInput p s).1 := by
  unfold offerInput
  dsimp only
  split
  · split
    · split
      · split
        · exact h
        · exact consistent_withdrawClear p h
      · exact consistent_offer _ _ h
    · split
      · exact consistent_offer _ _ h
      · exact consistent_offer _ _ h
  · exact h

/-- Held panel notices that are discarded. -/
theorem consistent_mapPanel (f : Panel → Panel) (ha : ∀ p, (f p).heldAck = p.heldAck ∨ (f p).heldAck = none)
    (hr : ∀ p, (f p).heldReset = p.heldReset ∨ (f p).heldReset = none) (h : s.Consistent) :
    State.Consistent (s.mapPanel f) := by
  refine ⟨h.places, h.quiet, h.loaded, h.image, fun hn => ⟨?_, ?_⟩, h.modal⟩
  · rcases ha s.panel with e | e
    · exact e.trans (h.held hn).1
    · exact e
  · rcases hr s.panel with e | e
    · exact e.trans (h.held hn).2
    · exact e

theorem consistent_offerHeldAck (h : s.Consistent) : State.Consistent (offerHeldAck s) := by
  unfold offerHeldAck
  split
  · dsimp only
    split
    · exact consistent_mapPanel _ (fun _ => .inr rfl) (fun _ => .inl rfl) (consistent_offer _ _ h)
    · exact consistent_offer _ _ h
  · exact h

theorem consistent_offerHeldReset (h : s.Consistent) : State.Consistent (offerHeldReset s) := by
  unfold offerHeldReset
  split
  · dsimp only
    split
    · exact consistent_mapPanel _ (fun _ => .inl rfl) (fun _ => .inr rfl) (consistent_offer _ _ h)
    · exact consistent_offer _ _ h
  · exact h

theorem consistent_runOffer (t : OfferTask) (h : s.Consistent) : State.Consistent (runOffer t s).1 := by
  cases t
  · exact consistent_offerInput _ h
  · exact consistent_offerHeldAck h
  · exact consistent_offerHeldReset h

theorem consistent_runOffers (fuel : Nat) (ts : List OfferTask) (h : s.Consistent) :
    State.Consistent (runOffers fuel ts s) := by
  induction fuel generalizing ts s with
  | zero => exact h
  | succ fuel ih =>
    cases ts with
    | nil => exact h
    | cons t ts => exact ih _ (consistent_runOffer t h)

theorem consistent_offersAfter (freed : Bool) (ps : List Nat) (h : s.Consistent) :
    State.Consistent (offersAfter freed ps s) := by
  unfold offersAfter
  split
  · exact consistent_runOffers _ _ (h.of_same (same_freeSpaceOffers s))
  · exact consistent_runOffers _ _ h

theorem consistent_withdrawCommandNotice (h : s.Consistent) : State.Consistent (withdrawCommandNotice s) :=
  consistent_offersAfter _ _ ((consistent_fewer _ (List.length_eraseP_le) h).of_same (same_complete _ _ _))

/-- What a flush leaves: an empty queue and no held notice, everything else of the modes as before. -/
theorem flush_modes (t : Stamp) (s : State) :
    (flush t s).notices = [] ∧ (flush t s).link.state = s.link.state ∧ (flush t s).loader = s.loader
      ∧ (flush t s).panel.heldAck = none ∧ (flush t s).panel.heldReset = none
      ∧ (flush t s).port.modal = s.port.modal := by
  unfold flush
  dsimp only
  split
  · exact ⟨rfl, rfl, rfl, rfl, rfl, rfl⟩
  · have k := (same_discardEffects s.notices (({ s with notices := [] } : State).mapPanel
      (fun p => { p with heldAck := none, heldReset := none }))).trans
      (same_recordOwn .queueFlush t (some s.notices.length) _)
    exact ⟨k.notices, k.state, k.loader, k.heldAck, k.heldReset, k.modal⟩

theorem consistent_flush (t : Stamp) (h : s.Consistent) : State.Consistent (flush t s) := by
  obtain ⟨h1, h2, h3, h4, h5, h6⟩ := flush_modes t s
  exact ⟨by rw [h1]; exact Nat.zero_le _, fun _ => h1, by rw [h2, h3]; exact h.loaded, by rw [h3]; exact h.image,
    fun _ => ⟨h4, h5⟩, by rw [h2, h6]; exact h.modal⟩

/-! The Agreement Unit -/

theorem consistent_requestResync (t : Nat) (h : s.Consistent) : State.Consistent (requestResync t s) := by
  unfold requestResync
  split
  · dsimp only
    split
    · exact (consistent_offer _ _ h).of_same (same_modifyEntry _ _ _)
    · exact consistent_offer _ _ h
  · exact h

theorem consistent_onMismatch (k : Nat) (h : s.Consistent) : State.Consistent (onMismatch k s) := by
  unfold onMismatch
  split
  · exact consistent_requestResync _ h
  · split
    · exact h
    · exact h.of_same (same_modifyEntry _ _ _)
  · exact h.of_same (same_modifyEntry _ _ _)
  all_goals exact h

theorem consistent_compareDigest (k : Nat) (d : Check) (h : s.Consistent) : State.Consistent (compareDigest k d s) := by
  unfold compareDigest
  split
  · exact h.of_same ((same_modifyEntry _ _ _).trans (same_clearOwnerLost _ _))
  · exact consistent_onMismatch _ (h.of_same (same_setEvent _ _))

theorem consistent_makeDeferred (h : s.Consistent) : State.Consistent (makeDeferred s) := by
  unfold makeDeferred
  split
  · exact consistent_compareDigest _ _ (h.of_same (same_mapAgreement _ _))
  · exact h

theorem consistent_takeDigest (f : SlotFrame) (o : Bool) (h : s.Consistent) : State.Consistent (takeDigest f o s) := by
  unfold takeDigest
  split
  · exact h
  · split
    · exact h.of_same (same_mapAgreement _ _)
    · exact consistent_compareDigest _ _ h

/-! Passages of the link state -/

/-- A change of link state alone: the queue, the loader and the modal state are as before, and leaving RUNNING discards the
held notices. -/
theorem setLinkState_modes (new : LinkState) (s : State) :
    (setLinkState new s).notices = s.notices ∧ (setLinkState new s).loader = s.loader
      ∧ (setLinkState new s).port.modal = s.port.modal := by
  unfold setLinkState
  split
  · exact ⟨rfl, rfl, rfl⟩
  · dsimp only
    split <;> exact ⟨rfl, rfl, rfl⟩

theorem setLinkState_held (new : LinkState) (s : State) (h : s.Consistent) (hn : new ≠ .running) :
    (setLinkState new s).panel.heldAck = none ∧ (setLinkState new s).panel.heldReset = none := by
  unfold setLinkState
  split
  · rename_i e
    exact h.held (e ▸ hn)
  · dsimp only
    split
    · exact ⟨rfl, rfl⟩
    · rename_i hr
      exact h.held hr

theorem same_dropDuties (s : State) : SameMode s (dropDuties s) :=
  ((same_endOwnSlot s).trans (same_emptyWaitSet _)).trans (same_setListOwed _ _)

theorem same_unfollow (s : State) : SameMode s (unfollow s) := ⟨rfl, rfl, rfl, rfl, rfl, rfl⟩

theorem same_stopMarks (s : State) : SameMode s (stopMarks s) := ⟨rfl, rfl, rfl, rfl, rfl, rfl⟩

theorem same_recordPassage (k : HistoryKind) (s : State) : SameMode s (recordPassage k s) := same_recordOwn _ _ _ s

/-- A state in link state `new` with the loader and the modal state of another. -/
structure Passing (new : LinkState) (s t : State) : Prop where
  state : t.link.state = new
  loader : t.loader = s.loader
  modal : t.port.modal = s.port.modal

/-- The same with an empty queue and no held notice. -/
structure Passed (new : LinkState) (s t : State) : Prop extends Passing new s t where
  notices : t.notices = []
  heldAck : t.panel.heldAck = none
  heldReset : t.panel.heldReset = none

theorem Passing.same {new : LinkState} {s t u : State} (h : Passing new s t) (k : SameMode t u) : Passing new s u :=
  ⟨k.state.trans h.state, k.loader.trans h.loader, k.modal.trans h.modal⟩

theorem Passed.same {new : LinkState} {s t u : State} (h : Passed new s t) (k : SameMode t u) : Passed new s u :=
  ⟨h.toPassing.same k, k.notices.trans h.notices, k.heldAck.trans h.heldAck, k.heldReset.trans h.heldReset⟩

theorem Passing.flushNow {new : LinkState} {s t : State} (h : Passing new s t) : Passed new s (flushNow t) := by
  obtain ⟨h1, h2, h3, h4, h5, h6⟩ := flush_modes t.link.current t
  exact ⟨⟨h2.trans h.state, h3.trans h.loader, h6.trans h.modal⟩, h1, h4, h5⟩

theorem passing_setLinkState (new : LinkState) (s : State) : Passing new s (setLinkState new s) :=
  ⟨setLinkState_state new s, (setLinkState_modes new s).2.1, (setLinkState_modes new s).2.2⟩

theorem passed_enterListening (s : State) : Passed .listening s (enterListening s) :=
  (((passing_setLinkState .listening s).same (same_dropDuties _)).same (same_unfollow _)).flushNow

theorem passed_leaveLink (new : LinkState) (k : HistoryKind) (s : State) : Passed new s (leaveLink new k s) := by
  have h1 := ((passing_setLinkState new s).same (same_dropDuties _)).same (same_stopMarks _)
  unfold leaveLink
  extract_lets s1
  have h1 : Passing new s s1 := h1
  split
  · exact (h1.same (same_recordPassage _ _)).flushNow
  · have hc : Passing new s { s1 with choices := s1.choices + 1 } := h1.same (same_choices _ _)
    rcases inEitherOrder_two (recordPassage k) flushNow s1 with e | e <;> rw [e]
    · exact (hc.same (same_recordPassage _ _)).flushNow
    · exact hc.flushNow.same (same_recordPassage _ _)

/-- A passage to a state that sends nothing, ending in a flush. -/
theorem Passed.consistent {new : LinkState} {s t : State} (p : Passed new s t) (h : s.Consistent)
    (hd : s.loader.state = .delivered) (hm : new = .isolated ↔ t.port.modal.isIsolated = true) : t.Consistent :=
  ⟨by rw [p.notices]; exact Nat.zero_le _, fun _ => p.notices, fun _ => by rw [p.loader]; exact hd,
    by rw [p.loader]; exact h.image, fun _ => ⟨p.heldAck, p.heldReset⟩, by rw [p.state]; exact hm⟩

theorem consistent_enterListening (h : s.Consistent) (hd : s.loader.state = .delivered)
    (hm : s.port.modal.isIsolated = false) : State.Consistent (enterListening s) :=
  (passed_enterListening s).consistent h hd (by rw [(passed_enterListening s).modal, hm]; decide)

/-- What the append of a JOIN leaves. -/
theorem queueJoin_modes (b : Bool) (s : State) :
    (queueJoin b s).notices.length = s.notices.length + 1 ∧ (queueJoin b s).link = s.link
      ∧ (queueJoin b s).loader = s.loader ∧ (queueJoin b s).panel = s.panel ∧ (queueJoin b s).port = s.port := by
  refine ⟨?_, rfl, rfl, rfl, rfl⟩
  show (s.notices ++ _).length = _
  rw [List.length_append, List.length_singleton]

theorem same_prepareJoin (s : State) : SameMode (setLinkState .joining s) (prepareJoin s) :=
  (same_emptyWaitSet (setLinkState .joining s)).trans (same_mapLink _ _)

/-- What entry to JOINING leaves: one notice more, no held notice. -/
theorem enterJoining_modes (s : State) (h : s.Consistent) :
    Passing .joining s (enterJoining s) ∧ (enterJoining s).notices.length = s.notices.length + 1
      ∧ (enterJoining s).panel.heldAck = none ∧ (enterJoining s).panel.heldReset = none := by
  have p := (passing_setLinkState .joining s).same (same_prepareJoin s)
  have hh := setLinkState_held .joining s h (by decide)
  have k := same_prepareJoin s
  have m := setLinkState_modes .joining s
  unfold enterJoining
  obtain ⟨q1, q2, q3, q4, q5⟩ := queueJoin_modes s.link.tablesNeeded (prepareJoin s)
  exact ⟨⟨(congrArg Link.state q2).trans p.state, q3.trans p.loader, (congrArg Port.modal q5).trans p.modal⟩,
    q1.trans (by rw [k.notices, m.1]), (congrArg Panel.heldAck q4).trans (k.heldAck.trans hh.1),
    (congrArg Panel.heldReset q4).trans (k.heldReset.trans hh.2)⟩

theorem consistent_enterJoining (h : s.Consistent) (hq : s.notices = []) (hd : s.loader.state = .delivered)
    (hm : s.port.modal.isIsolated = false) : State.Consistent (enterJoining s) := by
  obtain ⟨p, hl, ha, hr⟩ := enterJoining_modes s h
  refine ⟨by rw [hl, hq]; decide, fun hs => ?_, fun _ => by rw [p.loader]; exact hd, by rw [p.loader]; exact h.image,
    fun _ => ⟨ha, hr⟩, ?_⟩
  · rw [p.state] at hs
    exact absurd hs (by decide)
  · rw [p.state, p.modal, hm]
    decide

/-- A state with the modal state of the Command Unit replaced. -/
theorem consistent_withModal (m : Modal) (s : State) (hp : s.notices.length ≤ 12)
    (hq : s.link.state.sends = false → s.notices = []) (hl : s.link.state.unconfigured = false → s.loader.state = .delivered)
    (hi : s.loader.state = .delivered → s.loader.image.isSome = true)
    (hh : s.link.state ≠ .running → s.panel.heldAck = none ∧ s.panel.heldReset = none)
    (hm : s.link.state = .isolated ↔ m.isIsolated = true) :
    State.Consistent (s.mapPort (fun p => { p with modal := m })) := ⟨hp, hq, hl, hi, hh, hm⟩

theorem not_isolated_iff {l : LinkState} {m : Modal} (hl : l ≠ .isolated) (hm : m.isIsolated = false) :
    l = .isolated ↔ m.isIsolated = true :=
  ⟨fun e => absurd e hl, fun e => absurd (hm.symm.trans e) (by decide)⟩

/-- A rejoin request with the modal state that follows it (R119, R179). -/
theorem consistent_rejoin (m : Modal) (hm : m.isIsolated = false) (h : s.Consistent) :
    State.Consistent ((rejoin s).mapPort (fun p => { p with modal := m })) := by
  unfold rejoin
  split
  · rename_i hs
    have k := same_recordOwn .rejoin s.link.current none s
    have hd : s.loader.state = .delivered := h.loaded (by rw [hs]; decide)
    have hi := h.image hd
    have hq : (recordOwn .rejoin s.link.current none s).notices = [] := k.notices.trans (h.quiet (by rw [hs]; decide))
    have hd : (recordOwn .rejoin s.link.current none s).loader.state = .delivered := by rw [k.loader]; exact hd
    have hi : (recordOwn .rejoin s.link.current none s).loader.image.isSome = true := by rw [k.loader]; exact hi
    obtain ⟨p, hl, ha, hr⟩ := enterJoining_modes _ (h.of_same k)
    revert p hl ha hr hq hd hi
    generalize recordOwn .rejoin s.link.current none s = t
    intro hq hd hi p hl ha hr
    refine consistent_withModal m _ (by rw [hl, hq]; decide) (fun hx => ?_) (fun _ => by rw [p.loader]; exact hd)
      (fun _ => by rw [p.loader]; exact hi) (fun _ => ⟨ha, hr⟩) (not_isolated_iff (by rw [p.state]; decide) hm)
    rw [p.state] at hx
    exact absurd hx (by decide)
  · rename_i hs
    exact consistent_withModal m s h.places h.quiet h.loaded h.image h.held (not_isolated_iff hs hm)

theorem consistent_enterRunningState (h : s.Consistent) (hd : s.loader.state = .delivered)
    (hm : s.port.modal.isIsolated = false) : State.Consistent (setLinkState .running s) := by
  have p := passing_setLinkState .running s
  have m := setLinkState_modes .running s
  refine ⟨by rw [m.1]; exact h.places, fun hs => ?_, fun _ => by rw [p.loader]; exact hd, by rw [p.loader]; exact h.image,
    fun hn => absurd p.state hn, ?_⟩
  · rw [p.state] at hs
    exact absurd hs (by decide)
  · rw [p.state, p.modal, hm]
    decide

theorem modal_of_state {l : LinkState} (h : s.Consistent) (hs : s.link.state = l) (hl : l ≠ .isolated) :
    s.port.modal.isIsolated = false := by
  cases hm : s.port.modal.isIsolated with
  | false => rfl
  | true => exact absurd (hs.symm.trans (h.modal.mpr hm)) hl

theorem loaded_of_state {l : LinkState} (h : s.Consistent) (hs : s.link.state = l) (hl : l.unconfigured = false) :
    s.loader.state = .delivered := h.loaded (hs ▸ hl)

theorem consistent_requestStale (h : s.Consistent) : State.Consistent (requestStale s) := by
  unfold requestStale
  refine foldl_keeps (P := State.Consistent) _ (fun s k h => ?_) _ _ h
  split
  · exact consistent_requestResync _ (h.of_same (same_modifyEntry _ _ _))
  · exact h

theorem consistent_enterRunning (h : s.Consistent) (hs : s.link.state = .joining) :
    State.Consistent (enterRunning s) := by
  have h1 := consistent_enterRunningState h (loaded_of_state h hs (by decide)) (modal_of_state h hs (by decide))
  unfold enterRunning
  extract_lets s1 s2
  have h2 : s2.Consistent := h1.of_same ((same_emptyWaitSet _).trans (same_mapLink _ _))
  split
  · refine inEitherOrder_keeps (P := State.Consistent) (fun _ _ h => consistent_choices _ h) _ ?_ _ h2
    simp only [List.mem_cons, List.not_mem_nil, or_false]
    rintro f (rfl | rfl) s h
    · exact consistent_runOffers _ _ h
    · exact consistent_requestStale h
  · exact consistent_runOffers _ _ h2

theorem consistent_enterIsolated (d : Nat) (h : s.Consistent) (hd : s.loader.state = .delivered) :
    State.Consistent (enterIsolated d s) := by
  have p := passed_leaveLink .isolated .isolate s
  refine ⟨?_, fun _ => p.notices, fun _ => ?_, fun _ => ?_, fun _ => ⟨p.heldAck, p.heldReset⟩, ?_⟩
  · show (leaveLink _ _ s).notices.length ≤ 12
    rw [p.notices]
    exact Nat.zero_le _
  · show (leaveLink _ _ s).loader.state = _
    rw [p.loader]
    exact hd
  · show (leaveLink _ _ s).loader.image.isSome = _
    rw [p.loader]
    exact h.image hd
  · show (leaveLink _ _ s).link.state = _ ↔ _
    rw [p.state]
    exact ⟨fun _ => rfl, fun _ => rfl⟩

theorem consistent_leaveAndEnd (new : LinkState) (k : HistoryKind) (h : s.Consistent)
    (hd : s.loader.state = .delivered) (hn : new ≠ .isolated) :
    State.Consistent (endModalIsolation (leaveLink new k s)) := by
  have p := passed_leaveLink new k s
  have done : ∀ t : State, Passed new s t → t.port.modal.isIsolated = false → t.Consistent := fun t q e =>
    q.consistent h hd ⟨fun x => absurd x hn, fun x => absurd x (by rw [e]; decide)⟩
  unfold endModalIsolation
  split
  · refine ⟨?_, fun _ => p.notices, fun _ => ?_, fun _ => ?_, fun _ => ⟨p.heldAck, p.heldReset⟩, ?_⟩
    · show (leaveLink _ _ s).notices.length ≤ 12
      rw [p.notices]
      exact Nat.zero_le _
    · show (leaveLink _ _ s).loader.state = _
      rw [p.loader]
      exact hd
    · show (leaveLink _ _ s).loader.image.isSome = _
      rw [p.loader]
      exact h.image hd
    · show (leaveLink _ _ s).link.state = _ ↔ _
      rw [p.state]
      exact ⟨fun e => absurd e hn, fun e => nomatch e⟩
  · rename_i e
    exact done _ p (by rw [e]; rfl)
  · rename_i e
    exact done _ p (by rw [e]; rfl)

theorem mayBeBarred_configured {l : LinkState} (h : l.mayBeBarred = true) : l.unconfigured = false := by
  cases l <;> simp_all [LinkState.mayBeBarred, LinkState.unconfigured]

theorem consistent_enterConflict (h : s.Consistent) : State.Consistent (enterConflict s) := by
  unfold enterConflict
  split
  · rename_i hb
    exact consistent_leaveAndEnd _ _ h (h.loaded (mayBeBarred_configured hb)) (by decide)
  · exact h

theorem consistent_enterMismatch (h : s.Consistent) : State.Consistent (enterMismatch s) := by
  unfold enterMismatch
  split
  · rename_i hb
    exact consistent_leaveAndEnd _ _ h (h.loaded (mayBeBarred_configured hb)) (by decide)
  · exact h

theorem sends_configured {l : LinkState} (h : l.sends = true) : l.unconfigured = false := by
  cases l <;> simp_all [LinkState.sends, LinkState.unconfigured]

theorem sends_not_isolated {l : LinkState} (h : l.sends = true) : l ≠ .isolated := by
  cases l <;> simp_all [LinkState.sends]

theorem consistent_tableRebuild (c : Nat) (h : s.Consistent) : State.Consistent (tableRebuild c s) := by
  have h0 := (consistent_makeDeferred h).of_same (same_tableTreatment c _)
  have h1 := consistent_flush ⟨c, 0, 0⟩ h0
  have hq := (flush_modes ⟨c, 0, 0⟩ (tableTreatment c (makeDeferred s))).1
  unfold tableRebuild
  extract_lets s1 s2 s3
  have k2 : SameMode s1 s2 := same_mapLink _ _
  have h2 : s2.Consistent := h1.of_same k2
  have h3 : s3.Consistent := by
    show State.Consistent (if s2.link.state.sends then enterJoining s2 else s2)
    split
    · rename_i hs
      exact consistent_enterJoining h2 (k2.notices.trans hq) (h2.loaded (sends_configured hs))
        (modal_of_state h2 rfl (sends_not_isolated hs))
    · exact h2
  exact h3.of_same (same_mapLink _ _)

/-! The MARK -/

theorem consistent_ageJoinWait (c k : Nat) (h : s.Consistent) : State.Consistent (ageJoinWait c k s) := by
  unfold ageJoinWait
  split
  · split
    · exact h
    · split
      · exact h.of_same (same_modifyEntry _ _ _)
      · exact consistent_requestResync _ (h.of_same ((same_modifyEntry _ _ _).trans (same_recordHistory _ _)))
  · exact h

theorem consistent_agePending (c t : Nat) (h : s.Consistent) : State.Consistent (agePending c t s) := by
  unfold agePending
  split
  · exact h
  · split
    · exact h.of_same (same_modifyEntry _ _ _)
    · exact h.of_same ((((same_modifyEntry _ _ _).trans (same_mapAgreement _ _)).trans (same_recordHistory _ _)).trans
        (same_setEvent _ _))

theorem consistent_runIfJoined (h : s.Consistent) : State.Consistent (runIfJoined s) := by
  unfold runIfJoined
  split
  · rename_i hj
    refine consistent_enterRunning h ?_
    simp only [State.joinComplete, Bool.and_eq_true, decide_eq_true_eq] at hj
    exact hj.1
  · exact h

/-- Notices appended to a queue that has room, in a state that sends. -/
theorem consistent_appendAll (js : List Bool) (h : s.Consistent) (hs : s.link.state.sends = true ∨ js = [])
    (hl : s.notices.length + js.length ≤ 12) :
    State.Consistent (js.foldl (fun s need => appendNotice (.join need) .link s) s) := by
  induction js generalizing s with
  | nil => exact h
  | cons j js ih =>
    have hs : s.link.state.sends = true := hs.resolve_right (by simp)
    simp only [List.length_cons] at hl
    refine ih ?_ (.inl hs) ?_
    · refine ⟨?_, fun hq => absurd (hs.symm.trans hq) (by decide), h.loaded, h.image, h.held, h.modal⟩
      show (s.notices ++ _).length ≤ 12
      rw [List.length_append, List.length_singleton]
      omega
    · show (s.notices ++ _).length + _ ≤ 12
      rw [List.length_append, List.length_singleton]
      omega

theorem length_filter_split (q : List QueuedNotice) (n : Nat) :
    (q.filter (fun q => q.age < n)).length + (q.filter (fun q => n ≤ q.age)).length = q.length := by
  induction q with
  | nil => rfl
  | cons x xs ih =>
    by_cases hx : x.age < n
    · have hx' : ¬ n ≤ x.age := Nat.not_le.mpr hx
      simp only [List.filter_cons, hx, hx', decide_true, decide_false, if_true, Bool.false_eq_true, if_false,
        List.length_cons]
      omega
    · have hx' : n ≤ x.age := Nat.not_lt.mp hx
      simp only [List.filter_cons, hx, hx', decide_true, decide_false, if_true, Bool.false_eq_true, if_false,
        List.length_cons]
      omega

theorem consistent_ageQueue (c : Nat) (h : s.Consistent) : State.Consistent (ageQueue c s) := by
  unfold ageQueue
  extract_lets aged gone s1
  have ha : aged.length = s.notices.length := List.length_map _
  have hsplit := length_filter_split aged 8
  have h1 : s1.Consistent := consistent_fewer _ (by rw [← ha, ← hsplit]; exact Nat.le_add_right _ _) h
  split
  · exact h1
  · rename_i s2 joins s3 _
    have k2 : SameMode s1 s2 := (same_recordOwn .queueAged ⟨c, 0, 0⟩ (some gone.length) s1).trans
      (same_discardEffects gone _)
    have hj : joins.length ≤ gone.length := List.length_filterMap_le _ _
    refine consistent_offersAfter _ _ (consistent_appendAll joins (h1.of_same k2) ?_ ?_)
    · cases hs : s.link.state.sends with
      | true => exact .inl (by rw [k2.state]; exact hs)
      | false =>
        have he : aged = [] := by
          show s.notices.map _ = []
          rw [h.quiet hs]
          rfl
        have hg : gone = [] := by
          show aged.filter _ = []
          rw [he]
          rfl
        exact .inr (by show gone.filterMap _ = []; rw [hg]; rfl)
    · rw [k2.notices]
      have hp := h.places
      have e : s1.notices.length + gone.length = aged.length := hsplit
      omega

theorem consistent_markTasks (c : Nat) (f : State → State) (hf : f ∈ markTasks c) (h : s.Consistent) :
    State.Consistent (f s) := by
  simp only [markTasks, List.cons_append, List.mem_cons, List.mem_append, List.mem_map, List.not_mem_nil, or_false] at hf
  rcases hf with rfl | (⟨t, _, rfl⟩ | ⟨k, _, rfl⟩) | rfl
  · exact consistent_ageQueue _ h
  · exact consistent_agePending _ _ h
  · exact consistent_ageJoinWait _ _ h
  · exact consistent_runIfJoined h

theorem consistent_markParties (c : Nat) (h : s.Consistent) : State.Consistent (markParties c s) := by
  unfold markParties
  split
  · exact h
  split
  · exact inEitherOrder_keeps (P := State.Consistent) (fun _ _ h => consistent_choices _ h) _
      (fun f hf _ h => consistent_markTasks c f hf h) _ h
  · exact inTurn_keeps (P := State.Consistent) _ (fun f hf _ h => consistent_markTasks c f hf h) _ h

/-! The link cycle -/

theorem consistent_endSlot (k : Nat) (h : s.Consistent) : State.Consistent (endSlot k s) := by
  unfold endSlot
  extract_lets s1
  have h1 : s1.Consistent := (consistent_makeDeferred h).of_same (same_endOwnSlot _)
  split
  · exact h1.of_same (same_beginSlot _ _)
  · exact h1.of_same (same_beginMarkPhase _)

theorem consistent_settleCycle (m : Bool) (c : Nat) (h : s.Consistent) : State.Consistent (settleCycle m c s) := by
  unfold settleCycle
  split
  · exact h.of_same (same_takeCycle _ _)
  · split
    · exact h.of_same (same_takeCycle _ _)
    · exact (consistent_tableRebuild _ h).of_same (same_takeCycle _ _)

theorem consistent_examineSender (k : Nat) (o : Bool) (h : s.Consistent) : State.Consistent (examineSender k o s) := by
  unfold examineSender
  split
  · exact consistent_enterConflict h
  · exact h

theorem consistent_applyMark (f : MarkFrame) (o : Bool) (h : s.Consistent) : State.Consistent (applyMark f o s) := by
  unfold applyMark
  extract_lets s1 s2 s3
  have k1 : SameMode s s1 := (same_presetMark o s).trans (same_takeCycle _ _)
  have k3 : SameMode s s3 := (k1.trans (same_beginSlot 1 s1)).trans (same_mapLink _ _)
  exact consistent_markParties _ (h.of_same (k3.trans (same_modifyEntry _ _ _)))

theorem consistent_joinAtMark (f : MarkFrame) (h : s.Consistent) (hs : s.link.state = .listening) :
    State.Consistent (joinAtMark f s) := by
  have h0 := consistent_enterJoining h (h.quiet (by rw [hs]; decide)) (loaded_of_state h hs (by decide))
    (modal_of_state h hs (by decide))
  unfold joinAtMark
  extract_lets s1 s2
  have h1 : s1.Consistent := h0.of_same (same_mapLink _ _)
  refine consistent_applyMark _ _ ?_
  show State.Consistent (if s1.link.current ≠ stampZero ∧ f.cycle ≤ s1.link.current.cycle then tableRebuild f.cycle s1 else s1)
  split
  · exact consistent_tableRebuild _ h1
  · exact h1

theorem consistent_receiveMark (f : MarkFrame) (h : s.Consistent) : State.Consistent (receiveMark f s) := by
  unfold receiveMark
  extract_lets s1 position s2
  have h2 : s2.Consistent := (consistent_examineSender f.sender false
    (consistent_makeDeferred (h.of_same (same_ensureStarted s)))).of_same (same_mapLink _ _)
  split
  · exact (consistent_enterMismatch h2).of_same (same_endUnreadFrame _)
  · split
    · rename_i hl
      exact consistent_joinAtMark _ h2 hl.1
    · split
      · exact h2.of_same (same_followMark _ _)
      · exact consistent_applyMark _ _ (consistent_settleCycle _ _ h2)

theorem consistent_applySlot {d : During} (hd : KeptInside State.Consistent d) (f : SlotFrame) (o : Bool)
    (ns : List (Option Notice × Bool)) (h : s.Consistent) : State.Consistent (applySlot f o d ns s) := by
  unfold applySlot
  extract_lets s1 s2
  have h1 : s1.Consistent := hd _ _ ((hd _ _ (h.of_same (same_presetSlot f.sender s))).of_same
    (same_directoryHeader f f.cycle _))
  have h2 : s2.Consistent := applyNotices_keeps hd _ _ _ (fun _ _ h => h.of_same (same_setCurrent _ _))
    (fun _ _ _ h => consistent_applyNotice hd _ _ _ _ h) (fun _ _ _ h => h.of_same (same_completeApplied _ _ _)) _ _ h1
  exact (consistent_takeDigest _ _ h2).of_same (same_setCurrent _ _)

theorem consistent_receiveSlot {d : During} (hd : KeptInside State.Consistent d) (f : SlotFrame) (h : s.Consistent) :
    State.Consistent (receiveSlot d f s) := by
  unfold receiveSlot
  extract_lets s1 position s2
  have h2 : s2.Consistent := (consistent_examineSender f.sender false
    (consistent_makeDeferred (h.of_same (same_ensureStarted s)))).of_same (same_mapLink _ _)
  split
  · exact h2.of_same ((same_takeCycle _ _).trans (same_presetSlot _ _))
  · split
    · exact h2.of_same ((same_countSlip _).trans (same_endUnreadFrame _))
    · exact consistent_applySlot hd _ _ _ (consistent_settleCycle _ _ h2)

theorem consistent_receiveList {d : During} (hd : KeptInside State.Consistent d) (f : ListFrame) (h : s.Consistent) :
    State.Consistent (receiveList d f s) := by
  unfold receiveList
  extract_lets s1 position s2
  have h2 : s2.Consistent := (consistent_examineSender f.sender false (h.of_same (same_ensureStarted s))).of_same
    ((same_mapLink _ _).trans (same_endUnreadFrame _))
  split
  · exact h2
  · exact consistent_takeOwnedList hd _ h2

theorem consistent_receiveBytes {d : During} (hd : KeptInside State.Consistent d) (bs : List Byte) (h : s.Consistent) :
    State.Consistent (receiveBytes d bs s) := by
  unfold receiveBytes
  split
  · exact h
  · split
    · exact consistent_receiveMark _ h
    · exact consistent_receiveSlot hd _ h
    · exact consistent_receiveList hd _ h
    · exact h.of_same (same_endInvalidFrame _)

theorem consistent_takeWaitingIsolation (h : s.Consistent) : State.Consistent (takeWaitingIsolation s) := by
  unfold takeWaitingIsolation
  split
  · exact h
  · split
    · split
      · rename_i hs
        exact (consistent_enterIsolated _ h (h.loaded (sends_configured hs))).of_same (same_complete _ _ _)
      · exact h.of_same (same_complete _ _ _)
    · exact h

theorem consistent_handOver (h : s.Consistent) : State.Consistent (handOver s) := by
  refine consistent_fewer _ (Nat.le_of_eq ?_) h
  rw [List.length_append, List.length_map, ← List.length_append, List.take_append_drop]

theorem consistent_formSlotFrame (c : Nat) (h : s.Consistent) : State.Consistent (formSlotFrame c s) := by
  unfold formSlotFrame
  extract_lets s1 s2
  have h2 : s2.Consistent := by
    show State.Consistent (if s1.inFlight.any isJoin ∧ !s1.link.ownInitialised then ownInitialisation c s1 else s1)
    split
    · exact (consistent_handOver h).of_same (same_ownInitialisation _ _)
    · exact consistent_handOver h
  exact h2.of_same ((same_mapAgreement _ _).trans (same_startSending _ _))

theorem consistent_sendSlotFrame (h : s.Consistent) : State.Consistent (sendSlotFrame s) := by
  unfold sendSlotFrame
  split
  · split
    · extract_lets s1
      have h1 : s1.Consistent := h.of_same ((same_mapLink _ s).trans (same_foundersSlot _))
      split
      · exact h1
      · exact consistent_formSlotFrame _ h1
    · exact h
  · exact h

theorem consistent_applyOwnSlot {d : During} (hd : KeptInside State.Consistent d) (f : SlotFrame) (ns : List QueuedNotice)
    (h : s.Consistent) : State.Consistent (applyOwnSlot d f ns s) := by
  unfold applyOwnSlot
  extract_lets s1 s2
  have h2 : s2.Consistent := consistent_applySlot hd _ _ _ (consistent_settleCycle _ _ (h.of_same (same_endSending s)))
  exact h2.of_same ((same_mapAgreement _ _).trans (same_clearOwnerLost _ _))

theorem consistent_applyAndRemove {d : During} (hd : KeptInside State.Consistent d) (b : Bool) (f : SlotFrame)
    (h : s.Consistent) : State.Consistent (applyAndRemove d b f s).1 := by
  unfold applyAndRemove
  split
  · exact consistent_applyOwnSlot hd _ _ (consistent_fewer _ (List.length_filter_le _ _) h)
  · exact consistent_fewer _ (List.length_filter_le _ _) (consistent_applyOwnSlot hd _ _ h)

theorem consistent_slotFrameSent {d : During} (hd : KeptInside State.Consistent d) (b : Bool) (h : s.Consistent) :
    State.Consistent (slotFrameSent d b s) := by
  unfold slotFrameSent
  split
  · extract_lets r s2 offers
    have h2 : s2.Consistent := (consistent_applyAndRemove hd _ _ h).of_same (same_mapLink _ _)
    split
    · refine inEitherOrder_keeps (P := State.Consistent) (fun _ _ h => consistent_choices _ h) _ ?_ _ h2
      simp only [List.mem_cons, List.not_mem_nil, or_false]
      rintro f (rfl | rfl) s h
      · exact consistent_offersAfter _ _ h
      · exact consistent_takeWaitingIsolation h
    · exact consistent_offersAfter _ _ h2
  · exact h

theorem consistent_ownedListSent (h : s.Consistent) : State.Consistent (ownedListSent s) := by
  unfold ownedListSent
  split
  · exact consistent_takeWaitingIsolation (h.of_same ((((same_endSending s).trans (same_setListOwed _ _)).trans
      (same_endUnreadFrame _)).trans (same_mapLink _ _)))
  · exact h

theorem consistent_markSent (f : MarkFrame) (h : s.Consistent) : State.Consistent (markSent f s) :=
  consistent_takeWaitingIsolation (consistent_applyMark _ _ (consistent_settleCycle _ _ (h.of_same (same_endSending s))))

theorem consistent_takeWaitingAbort (h : s.Consistent) : State.Consistent (takeWaitingAbort s) := by
  unfold takeWaitingAbort
  split
  · split
    · exact consistent_withdrawCommandNotice h
    · exact h
  · exact h

theorem consistent_afterAbandoned (b : Bool) (ps : List Nat) (h : s.Consistent) :
    State.Consistent (afterAbandoned b ps s) := by
  unfold afterAbandoned
  refine inEitherOrder_keeps (P := State.Consistent) (fun _ _ h => consistent_choices _ h) _ (fun f hf s h => ?_) _ h
  simp only [List.mem_append, or_assoc] at hf
  rcases hf with hf | hf | hf | hf
  · split at hf
    · rw [List.mem_singleton.mp hf]; exact consistent_takeWaitingAbort h
    · exact absurd hf List.not_mem_nil
  · split at hf
    · rw [List.mem_singleton.mp hf]; exact consistent_takeWaitingIsolation h
    · exact absurd hf List.not_mem_nil
  · split at hf
    · rw [List.mem_singleton.mp hf]; exact consistent_enterConflict h
    · exact absurd hf List.not_mem_nil
  · split at hf
    · exact absurd hf List.not_mem_nil
    · rw [List.mem_singleton.mp hf]; exact consistent_offersAfter _ _ h

theorem consistent_collide (h : s.Consistent) : State.Consistent (collide s) := by
  unfold collide
  extract_lets s1
  have h1 : s1.Consistent := h.of_same (same_mapLink _ s)
  have hm : (markCollides s1).Consistent := by
    unfold markCollides
    exact consistent_afterAbandoned _ _ (h1.of_same (same_mapLink _ s1))
  have ho : (ownSlotCollides s1).Consistent := by
    unfold ownSlotCollides
    exact consistent_afterAbandoned _ _ ((consistent_fewer (s := s1.mapLink _) _ (Nat.le_of_eq (List.length_map _))
      (h1.of_same (same_mapLink _ s1))).of_same (same_mapAgreement _ _))
  split
  · exact h
  · exact hm
  · exact ho
  · exact ho

theorem consistent_silentSlotEnds (h : s.Consistent) : State.Consistent (silentSlotEnds s) := by
  unfold silentSlotEnds
  split
  · split
    · exact h
    · refine consistent_endSlot _ ?_
      split
      · split
        · exact h.of_same ((same_setCurrent _ s).trans (same_directorySilent _ _ _))
        · exact h
      · exact h
  · exact h
  · exact h

theorem consistent_occupiedSlotEnds (h : s.Consistent) : State.Consistent (occupiedSlotEnds s) := by
  unfold occupiedSlotEnds
  split
  · split
    · exact h
    · exact consistent_endSlot _ h
  · exact h
  · exact h

theorem consistent_cutFrame (h : s.Consistent) : State.Consistent (cutFrame s) := by
  unfold cutFrame
  split
  · exact h.of_same (same_endInvalidFrame _)
  · exact h

theorem consistent_slotLimitEnds (h : s.Consistent) : State.Consistent (slotLimitEnds s) := by
  unfold slotLimitEnds
  split
  · split
    · exact h
    · refine consistent_endSlot _ ?_
      split
      · exact h
      · exact h.of_same ((same_mapLink _ s).trans (same_countFrameError _))
  · exact consistent_cutFrame h
  · exact consistent_cutFrame h

theorem consistent_found (h : s.Consistent) : State.Consistent (found s) := by
  unfold found
  split
  · rename_i hl
    have hq : s.notices = [] := h.quiet (by rw [hl.1]; decide)
    have h0 := consistent_enterRunningState h (loaded_of_state h hl.1 (by decide)) (modal_of_state h hl.1 (by decide))
    extract_lets s1 s2
    have k1 : SameMode (setLinkState .running s) s1 := same_mapLink _ _
    have h1 : s1.Consistent := h0.of_same k1
    have h2 : s2.Consistent := (consistent_appendAll [false] h1
      (.inl (by rw [k1.state, setLinkState_state]; rfl))
      (by rw [k1.notices, (setLinkState_modes .running s).1, hq]; decide)).of_same (same_setListOwed _ _)
    exact (consistent_runOffers _ _ h2).of_same (same_startSending _ _)
  · exact h

theorem consistent_joinQuietEnds (h : s.Consistent) : State.Consistent (joinQuietEnds s) := by
  unfold joinQuietEnds
  split
  · rename_i hl
    exact consistent_enterListening h (loaded_of_state h hl.1 (by decide)) (modal_of_state h hl.1 (by decide))
  · exact h

/-! The panel and the mailbox -/

theorem consistent_pressAck (h : s.Consistent) (hs : s.link.state = .running) : State.Consistent (pressAck s) := by
  unfold pressAck
  split
  · exact consistent_mapPanel _ (fun _ => .inr rfl) (fun _ => .inl rfl) h
  · rename_i n _
    have h1 := consistent_offer n .ackButton h
    have k : (offer n .ackButton s).1.link.state = .running := by
      rcases offer_cases n .ackButton s with ⟨_, e⟩ | ⟨_, e⟩ | ⟨_, _, e⟩ <;> rw [e] <;> exact hs
    exact ⟨h1.places, h1.quiet, h1.loaded, h1.image, fun hn => absurd k hn, h1.modal⟩

theorem consistent_pressReset (h : s.Consistent) (hs : s.link.state = .running) : State.Consistent (pressReset s) := by
  unfold pressReset
  split
  · exact consistent_mapPanel _ (fun _ => .inl rfl) (fun _ => .inr rfl) h
  · rename_i n _
    have h1 := consistent_offer n .resetButton h
    have k : (offer n .resetButton s).1.link.state = .running := by
      rcases offer_cases n .resetButton s with ⟨_, e⟩ | ⟨_, e⟩ | ⟨_, _, e⟩ <;> rw [e] <;> exact hs
    exact ⟨h1.places, h1.quiet, h1.loaded, h1.image, fun hn => absurd k hn, h1.modal⟩


/-- A modal state that is not ISOLATED in place of one that is not. -/
theorem consistent_modal (m : Modal) (hm : m.isIsolated = false) (hs : s.port.modal.isIsolated = false)
    (h : s.Consistent) : State.Consistent (s.mapPort (fun p => { p with modal := m })) :=
  ⟨h.places, h.quiet, h.loaded, h.image, h.held,
    ⟨fun e => absurd (hs.symm.trans (h.modal.mp e)) (by decide), fun e => by
      have e : m.isIsolated = true := e
      rw [hm] at e
      exact absurd e (by decide)⟩⟩

theorem consistent_endLampTest (h : s.Consistent) : State.Consistent (endLampTest s) := by
  unfold endLampTest
  split
  · rename_i e
    exact consistent_modal _ rfl (by rw [e]; rfl) h
  · exact h
  · exact h

theorem consistent_expireLampTest (h : s.Consistent) : State.Consistent (expireLampTest s) := by
  unfold expireLampTest
  split
  · rename_i e
    exact consistent_modal _ rfl (by rw [e]; rfl) h
  · exact h
  · exact h
  · exact h

theorem consistent_expireRejoinDelay (h : s.Consistent) : State.Consistent (expireRejoinDelay s) := by
  unfold expireRejoinDelay
  split
  · exact consistent_rejoin _ rfl h
  · exact h
  · exact h
  · exact h

theorem same_refuseLocked (s : State) : SameMode s (refuseLocked s) :=
  ((same_complete _ _ s).trans (same_setEvent _ _)).trans (same_recordOwn _ _ _ _)

theorem consistent_whenUnlocked (f : State → State) (hf : ∀ {s : State}, s.Consistent → (f s).Consistent)
    (h : s.Consistent) : State.Consistent (whenUnlocked f s) := by
  unfold whenUnlocked
  split
  · exact hf h
  · exact h.of_same (same_refuseLocked _)

theorem consistent_whenRunning (f : State → State) (hf : ∀ {s : State}, s.Consistent → (f s).Consistent)
    (h : s.Consistent) : State.Consistent (whenRunning f s) := by
  unfold whenRunning
  split
  · exact hf h
  · exact h.of_same (same_complete _ _ _)

theorem consistent_complete (r : CommandResult) (out : List Byte) (h : s.Consistent) :
    State.Consistent (complete r out s) := h.of_same (same_complete _ _ _)

theorem consistent_queueCommandNotice (n : Notice) (h : s.Consistent) : State.Consistent (queueCommandNotice n s) := by
  unfold queueCommandNotice
  dsimp only
  split
  · exact consistent_offer _ _ h
  · exact consistent_complete _ _ (consistent_offer _ _ h)

theorem consistent_commandIsol (v : Vector Byte 16) (h : s.Consistent) : State.Consistent (commandIsol v s) := by
  refine consistent_whenUnlocked _ (fun {s} h => ?_) h
  split
  · rename_i hs
    split
    · exact consistent_complete _ _ (consistent_enterIsolated _ h (loaded_of_state h hs (by decide)))
    · exact h
  · rename_i hs
    split
    · exact consistent_complete _ _ (consistent_enterIsolated _ h (loaded_of_state h hs (by decide)))
    · exact h
  · rename_i hs
    refine consistent_complete _ _ ⟨h.places, h.quiet, h.loaded, h.image, h.held, ?_⟩
    exact ⟨fun _ => rfl, fun _ => hs⟩
  all_goals exact consistent_complete _ _ h

theorem consistent_commandAcka (v : Vector Byte 16) (h : s.Consistent) : State.Consistent (commandAcka v s) := by
  refine consistent_whenRunning _ (fun h => ?_) h
  split
  · exact consistent_queueCommandNotice _ h
  · exact consistent_complete _ _ h

theorem consistent_commandAckp (v : Vector Byte 16) (h : s.Consistent) : State.Consistent (commandAckp v s) := by
  refine consistent_whenRunning _ (fun h => ?_) h
  split
  · exact consistent_queueCommandNotice _ h
  · exact consistent_complete _ _ h

theorem consistent_commandRsta (v : Vector Byte 16) (h : s.Consistent) : State.Consistent (commandRsta v s) := by
  refine consistent_whenRunning _ (fun h => ?_) (h.of_same (.of_records (records_localReset _)))
  split
  · exact consistent_queueCommandNotice _ h
  · exact consistent_complete _ _ h

theorem consistent_commandShlv (v : Vector Byte 16) (h : s.Consistent) : State.Consistent (commandShlv v s) := by
  refine consistent_whenUnlocked _ (fun h => consistent_whenRunning _ (fun h => ?_) h) h
  split
  · exact consistent_queueCommandNotice _ h
  · exact consistent_complete _ _ h

theorem consistent_commandUnsh (v : Vector Byte 16) (h : s.Consistent) : State.Consistent (commandUnsh v s) := by
  refine consistent_whenUnlocked _ (fun h => consistent_whenRunning _ (fun h => ?_) h) h
  split
  · exact consistent_queueCommandNotice _ h
  · exact consistent_complete _ _ h

theorem consistent_handleCommand (c : CommandCode) (v : Vector Byte 16) (h : s.Consistent) :
    State.Consistent (handleCommand c v s) := by
  cases c
  · exact consistent_commandAcka v h
  · exact consistent_commandAckp v h
  · exact consistent_commandRsta v h
  · exact consistent_commandShlv v h
  · exact consistent_commandUnsh v h
  · exact consistent_complete _ _ (h.of_same (same_silenceAction _))
  · show State.Consistent (commandTest v s)
    unfold commandTest
    split
    · exact consistent_complete _ _ h
    · exact consistent_complete _ _ (consistent_rejoin _ rfl h)
  · exact consistent_whenUnlocked _ (fun {s} h => consistent_complete (s := { s with history := ⟨[], 0⟩ }) _ _
      ⟨h.places, h.quiet, h.loaded, h.image, h.held, h.modal⟩) h
  · exact consistent_commandIsol v h
  · show State.Consistent (commandRjon s)
    unfold commandRjon
    split
    · exact consistent_complete _ _ (consistent_rejoin _ rfl h)
    · exact consistent_complete _ _ h
  · show State.Consistent (commandLkey v s)
    unfold commandLkey
    split
    · exact consistent_complete _ _ (h.of_same (same_mapPort _ s))
    · exact consistent_complete _ _ h
  · exact h

theorem consistent_startCommand (c : CommandCode) (h : s.Consistent) : State.Consistent (startCommand c s) := by
  have h1 : State.Consistent (takeCommand c s) := h.of_same (same_mapPort _ s)
  unfold startCommand
  split
  · exact consistent_complete _ _ h1
  · exact consistent_handleCommand _ _ h1

theorem consistent_abort (h : s.Consistent) : State.Consistent (abort s) := by
  have hn : State.Consistent (abortNoticeCommand s) := by
    unfold abortNoticeCommand
    split
    · exact h
    · split
      · exact h.of_same (same_mapPort _ s)
      · exact consistent_withdrawCommandNotice h
  unfold abort
  split
  · exact h
  · split <;> first | exact hn | exact h | exact consistent_complete _ _ h

theorem consistent_writeCmd (w : Word32) (h : s.Consistent) : State.Consistent (writeCmd w s) := by
  unfold writeCmd
  extract_lets s1
  have h1 : s1.Consistent := h.of_same (same_mapPort _ s)
  split
  · exact consistent_abort h1
  · split
    · exact h1.of_same (same_mapPort _ s1)
    · split
      · exact h1
      · split
        · exact consistent_startCommand _ h1
        · exact consistent_complete _ _ h1

theorem same_setTransaction (t : Transaction) (s : State) : SameMode s (setTransaction t s) := same_mapPort _ s

theorem consistent_serve (t : Transaction) (f : State → State) (hf : ∀ {s : State}, s.Consistent → (f s).Consistent)
    (h : s.Consistent) : State.Consistent (serve t f s) := by
  unfold serve
  split
  · exact hf (h.of_same (same_setTransaction t s))
  · exact h

theorem consistent_ackAction (h : s.Consistent) : State.Consistent (ackAction s) := by
  unfold ackAction
  split
  · exact consistent_pressAck h ‹_›
  · exact h

theorem consistent_resetAction (h : s.Consistent) : State.Consistent (resetAction s) := by
  unfold resetAction
  have k : SameMode s (localReset s) := .of_records (records_localReset s)
  split
  · exact consistent_pressReset (h.of_same k) (k.state.trans ‹_›)
  · exact h.of_same k

/-- What falls inside the application of a frame keeps the state consistent. -/
theorem consistent_fallInside (xs : List Inside) : KeptInside State.Consistent (fallInside xs) :=
  keptInside_fallInside (fun a s h => by
    cases a
    · exact h.of_same (same_silenceAction s)
    · exact consistent_ackAction h
    · exact consistent_resetAction h
    · exact consistent_serve _ _ (fun h => consistent_writeCmd _ h) h
    · exact consistent_serve _ _ (fun h => consistent_writeCmd _ h) h
    · exact consistent_serve _ _ (fun h => consistent_writeCmd _ h) h
    · exact consistent_serve _ _ (fun h => h.of_same (same_mapPort _ _)) h
    · exact consistent_serve _ _ (fun h => consistent_writeCmd _ h) h
    · exact consistent_serve _ _ (fun h => h.of_same (same_mapPort _ _)) h) xs

theorem consistent_writeCmdByte (o : Nat) (v : Byte) (h : s.Consistent) : State.Consistent (writeCmdByte o v s) := by
  unfold writeCmdByte
  extract_lets s1
  have h1 : s1.Consistent := h.of_same (same_mapPort _ s)
  split
  · split
    · exact consistent_writeCmd _ h1
    · exact h1
  · exact h1

theorem same_writeSelect (o : Byte) (i : BitVec 16) (s : State) : SameMode s (writeSelect o i s) :=
  same_mapPort _ s (fun p => by split <;> rfl)

theorem same_writeSelectByte (o : Nat) (v : Byte) (s : State) : SameMode s (writeSelectByte o v s) := by
  unfold writeSelectByte
  extract_lets s1
  have k : SameMode s s1 := same_mapPort _ s
  split
  · split
    · exact k.trans (same_writeSelect _ _ _)
    · exact k
  · exact k

theorem same_zeroCounters (s : State) : SameMode s (zeroCounters s) := ⟨rfl, rfl, rfl, rfl, rfl, rfl⟩

theorem consistent_writeByte (a : Nat) (v : Byte) (h : s.Consistent) : State.Consistent (writeByte a v s) := by
  unfold writeByte
  repeat' split
  · exact h
  · exact h.of_same (same_mapPort _ s)
  · exact h.of_same (same_mapPort _ s)
  · exact h.of_same (same_zeroCounters s)
  · exact h
  · exact consistent_writeCmdByte _ _ h
  · exact h.of_same (same_mapPort _ s)
  · exact h.of_same (same_writeSelectByte _ _ s)
  · exact h

/-! Starts and the Configuration Loader -/

theorem consistent_startValues (l : History) (s : State) : State.Consistent (startValues l s) :=
  ⟨Nat.zero_le _, fun _ => rfl, fun h => absurd h Bool.noConfusion, fun h => absurd h LoadState.noConfusion,
    fun _ => ⟨rfl, rfl⟩, ⟨fun h => absurd h LinkState.noConfusion, fun h => absurd h Bool.noConfusion⟩⟩

theorem consistent_heldStart (b : Bool) (s : State) : State.Consistent (heldStart b s) :=
  (consistent_startValues _ s).of_same (same_setTransaction _ _)

theorem same_restUnused (s : State) (p : Nat) : SameMode s (restUnused s p) := by
  unfold restUnused
  split
  · exact .refl s
  · exact ⟨rfl, rfl, rfl, rfl, rfl, rfl⟩

theorem consistent_restartIfRequested (h : s.Consistent) : State.Consistent (restartIfRequested s) := by
  unfold restartIfRequested
  split
  · split
    · exact consistent_startValues _ _
    · exact h
  · exact h

/-- A loader that has not delivered goes on without delivering. -/
theorem consistent_mapLoader (f : Loader → Loader) (hs : s.loader.state ≠ .delivered)
    (hf : (f s.loader).state ≠ .delivered) (h : s.Consistent) : State.Consistent (s.mapLoader f) :=
  ⟨h.places, h.quiet, fun hu => absurd (h.loaded hu) hs, fun hd => absurd hd hf, h.held, h.modal⟩

theorem unconfigured_of_loading (h : s.Consistent) (hs : s.loader.state ≠ .delivered) :
    s.link.state.unconfigured = true := by
  cases hu : s.link.state.unconfigured with
  | true => rfl
  | false => exact absurd (h.loaded hu) hs

theorem consistent_beginAttempt (h : s.Consistent) (hs : s.loader.state ≠ .delivered) :
    State.Consistent (beginAttempt s) := consistent_mapLoader _ hs LoadState.noConfusion h

theorem unconfigured_not_isolated {l : LinkState} (h : l.unconfigured = true) : l ≠ .isolated := by
  cases l <;> simp_all [LinkState.unconfigured]

theorem unconfigured_not_sends {l : LinkState} (h : l.unconfigured = true) : l.sends = false := by
  cases l <;> simp_all [LinkState.unconfigured, LinkState.sends]

theorem consistent_loadFault (h : s.Consistent) (hs : s.loader.state ≠ .delivered) : State.Consistent (loadFault s) := by
  have hu := unconfigured_of_loading h hs
  have h1 : State.Consistent (s.mapLoader (fun l => { l with state := .fault, retryWait := false })) :=
    consistent_mapLoader _ hs LoadState.noConfusion h
  have p := passing_setLinkState .configFault (s.mapLoader (fun l => { l with state := .fault, retryWait := false }))
  have m := setLinkState_modes .configFault (s.mapLoader (fun l => { l with state := .fault, retryWait := false }))
  have hh := setLinkState_held .configFault _ h1 (by decide)
  have hq : s.notices = [] := h.quiet (unconfigured_not_sends hu)
  have hm := modal_of_state h rfl (unconfigured_not_isolated hu)
  unfold loadFault
  refine State.Consistent.of_same (s := setLinkState .configFault _) ?_ (same_setEvent _ _)
  refine ⟨by rw [m.1]; exact h1.places, fun _ => m.1.trans hq, fun hx => ?_, fun hx => ?_, fun _ => hh, ?_⟩
  · rw [p.state] at hx
    exact absurd hx (by decide)
  · rw [p.loader] at hx
    exact absurd hx LoadState.noConfusion
  · rw [p.state, p.modal]
    exact ⟨fun e => absurd e (by decide), fun e => absurd (hm.symm.trans e) (by decide)⟩

theorem consistent_configWaitEnds (h : s.Consistent) : State.Consistent (configWaitEnds s) := by
  unfold configWaitEnds
  split
  · rename_i hs
    exact consistent_beginAttempt h (by rw [hs]; decide)
  · exact h

theorem reading_state {s : State} (h : s.reading = true) : s.loader.state = .reading := by
  simp only [State.reading, Bool.and_eq_true, decide_eq_true_eq] at h
  exact h.1

theorem consistent_attemptFails (h : s.Consistent) : State.Consistent (attemptFails s) := by
  unfold attemptFails
  split
  · rename_i hr
    have hr := reading_state hr
    split
    · exact consistent_mapLoader _ (by rw [hr]; decide) (by show s.loader.state ≠ _; rw [hr]; decide) h
    · exact consistent_loadFault h (by rw [hr]; decide)
  · exact h

theorem consistent_retryWaitEnds (h : s.Consistent) : State.Consistent (retryWaitEnds s) := by
  unfold retryWaitEnds
  split
  · rename_i hs
    exact consistent_beginAttempt h (by rw [hs.1]; decide)
  · exact h

theorem consistent_readCompletes (v : Vector Byte 256) (h : s.Consistent) : State.Consistent (readCompletes v s) := by
  unfold readCompletes
  split
  · rename_i hr
    have hr := reading_state hr
    have hne : s.loader.state ≠ .delivered := by rw [hr]; decide
    have hu := unconfigured_of_loading h hne
    have hm := modal_of_state h rfl (unconfigured_not_isolated hu)
    extract_lets s1
    have h1 : s1.Consistent := consistent_mapLoader _ hne LoadState.noConfusion h
    split
    · rename_i image _
      have h2 : State.Consistent (s1.mapLoader (fun l => { l with state := .delivered, image := some image })) :=
        ⟨h1.places, h1.quiet, fun _ => rfl, fun _ => rfl, h1.held, h1.modal⟩
      have k := SameMode.foldl restUnused same_restUnused (List.range 16)
        (s1.mapLoader (fun l => { l with state := .delivered, image := some image }))
      exact consistent_enterListening (h2.of_same k) (by rw [k.loader]; rfl) (by rw [k.modal]; exact hm)
    · exact consistent_loadFault h1 (by show LoadState.checking ≠ _; decide)
  · exact h

end Sys2Proof.Machine
end

