-- ==== Sys2Proof/WellFormed.lean ====
section
/-! DEFINITION. Which operands a command of the table can have. The meanings are total; this says which terms stand for
events that the manual describes. -/

namespace Sys2Proof

open Sys2Proof.Machine

/-- A frame the row names can be these bytes: the row's kind byte (R191), as many bytes as that kind expects (R80). -/
def frameBytesFit (kind : Byte) (bytes : List Byte) : Bool :=
  byteAt bytes 0 == kind && expectedLength bytes == some bytes.length

/-- The record events of one walk, at most one for each place of the Alarm List (R27, R41). -/
def walkEvents : Nat := Config.listPlaces

/-- An action can also fall between two record events of a walk, where no question is answered (R40, R44, R161, R167). -/
def fallsInWalk (a : InsideAction) : Bool :=
  match a with
  | .recordLoad | .clrh | .eventsWrite _ _ => true
  | .silencePress | .ackPress | .resetPress | .siln | .acka | .rsta => false

/-- EVENTS has two bytes (R165). -/
def insideActionFits (a : InsideAction) : Bool :=
  match a with
  | .eventsWrite offset _ => offset ≤ 1
  | .silencePress | .ackPress | .resetPress | .siln | .acka | .rsta | .recordLoad | .clrh => true

/-- An action falls between two parts of a frame, or between two record events of a walk. -/
def insideFits (parts : Nat) (walk : Nat) (x : Inside) : Bool :=
  insideActionFits x.action && x.moment.parts ≤ parts
    && (x.moment.events = 0 || (fallsInWalk x.action && x.moment.events ≤ walk))

/-- The operands of a command are those the manual allows. -/
def Instr.wellFormed (i : Instr) : Bool :=
  match i with
  | .inputEvent point => point ≤ 15
  | .markReceived bytes => frameBytesFit 0x51 bytes
  | .slotFrameReceived bytes inside =>
    frameBytesFit 0x52 bytes && inside.all (insideFits ((byteAt bytes 8).toNat + 1) walkEvents)
  | .ownSlotFrameSent inside _ => inside.all (insideFits (Config.noticesPerFrame + 1) walkEvents)
  | .ownedListReceived bytes inside => frameBytesFit 0x53 bytes && inside.all (insideFits 16 0)
  | .unknownCommand code => code ≠ 0 && code ≠ abortWord && (commandOf code).isNone
  | .overrun code => code ≠ abortWord
  | .eventsWrite offset _ => offset ≤ 1
  | .eventmaskWrite offset _ => offset ≤ 1
  | .countersWrite offset _ => offset ≤ 3
  | .powerOn _ => true
  | .resetnLow _ => true
  | .warmRestart => true
  | .configWaitExpiry => true
  | .failedAttempt _ => true
  | .retryWaitExpiry => true
  | .configReadComplete _ => true
  | .inputSample _ => true
  | .buttonSample _ _ _ _ => true
  | .ackPress => true
  | .resetPress => true
  | .silencePress => true
  | .testPress => true
  | .testRelease => true
  | .flashClockTick => true
  | .lampTestExpiry => true
  | .rejoinDelayExpiry => true
  | .frameStart => true
  | .collision => true
  | .frameEndByGap => true
  | .invalidFrame => true
  | .slotFrameSend => true
  | .ownedListSend => true
  | .ownedListSent => true
  | .markTimerExpiry => true
  | .listenWindowExpiry => true
  | .founding => true
  | .joinQuietTimeout => true
  | .silentSlot => true
  | .slotEnd => true
  | .slotLengthLimit => true
  | .acka => true
  | .ackp => true
  | .rsta => true
  | .shlv => true
  | .unsh => true
  | .siln => true
  | .test => true
  | .clrh => true
  | .isol => true
  | .rjon => true
  | .lkey => true
  | .warm => true
  | .abrt => true
  | .selectWrite _ _ => true
  | .recordLoad => true
  | .registerWrite _ _ => true
  | .resetnHigh => true
  | .powerOnHoldEnd => true
  | .lossOfSupply => true
  | .ssnRising => true

end Sys2Proof
end

