-- ==== Sys2Proof/Tests/Slice0.lean ====
section
/-! SUPPORT. Tests: ill-formed commands that WellFormed refuses, the layouts the manual writes out, steps of its worked
examples, and for every statement that has hypotheses a state and operands that meet them, clause by clause. -/

namespace Sys2Proof.Tests

open Sys2Proof Sys2Proof.Machine

/-! ## States to start from -/

/-- A used input: ACTIVE-CLOSED, debounce 2, ALARM, AUTO-RESET, group 1. -/
def inputCfg : InputConfig := ⟨true, false, 2, ⟨.alarm, .autoReset, 1⟩⟩

/-- Station 2 of a link of four, zone 1, window 0 mapped to (1, 0), unlock code 7. -/
def image : Image :=
  { address := 2, slots := 4, rate := .kbit250, zone := 1, viewMask := 0xFF, tripMask := 1, promote := false,
    inputs := .replicate 16 inputCfg, windows := some ⟨1, 0⟩ :: .replicate 23 none, unlock := 7 }

/-- The station in a link state, in the mark phase after cycle 9, its mailbox idle. -/
def station (l : LinkState) : State :=
  { State.reset with
      link := { Link.reset with
        state := l, position := .markPhase, cycle := some 9, confirmed := true, current := ⟨9, 4, 47⟩, ownInitialised := true }
      loader := { Loader.reset with state := .delivered, image := some image } }

/-- The station in RUNNING. -/
def running : State := station .running

/-- A station that is in slot k, with the slot's timers running. -/
def inSlot (k : Nat) (s : State) : State := beginSlot k s

/-- A station with a command in progress. -/
def busy (code : CommandCode) (s : State) : State :=
  { s with port := { s.port with running := some ⟨code, .replicate 16 0, false, ⟨9, 4, 47⟩⟩ } }

/-- A station with notices queued. -/
def queued (qs : List QueuedNotice) (s : State) : State := { s with notices := qs }

/-- A queued notice of a source. -/
def fresh (n : Notice) (source : Source := .input) (inFlight : Bool := false) (age : Nat := 0) : QueuedNotice :=
  ⟨n, source, age, inFlight, false⟩

/-- A full queue of notices that name no input. -/
def full (s : State) : State := queued (.replicate 12 (fresh (.shelve 1 0) .command)) s

/-- A station with inputs in CMDDATA: the first byte, the rest 1. -/
def withInputs (first : Byte) (s : State) : State :=
  { s with port := { s.port with data := (Vector.replicate 16 1).set 0 first } }

/-- A station whose key is the unlock code. -/
def unlocked (s : State) : State := { s with port := { s.port with key := 7 } }

/-- A station sending a frame of its own. -/
def sending (f : Sending) (s : State) : State := { s with link := { s.link with sending := some f } }

/-- A station with a frame in reception. -/
def receiving (r : Reception) (s : State) : State := { s with link := { s.link with reception := r } }

/-- A station whose filtered condition of input 15 is active. -/
def activated (s : State) : State := s.modifyInput 15 (fun i => { i with filtered := .active })

/-- A station whose announced condition of input 15 is active. -/
def announced (s : State) : State := s.modifyInput 15 (fun i => { i with announced := true })

/-- A station whose list holds (1, 0) in a state. -/
def listed (st : PointState) (s : State) : State :=
  let s1 := s.modifyRecord ⟨1, 0⟩ (fun r => { r with state := st, alert := some ⟨9, 1, 1⟩ })
  let s2 := s1.modifyEntry 1 (fun e => { e with liveness := .live, zone := some 1 })
  { s2 with list := { s2.list with entries := [⟨1, 0⟩] } }

/-- The attributes of the tests' notices. -/
def attrs : Attributes := ⟨.alarm, .autoReset, 1⟩

/-- A MARK, a SLOT frame and an OWNED LIST of station 1 in cycle 10. -/
def aMark : MarkFrame := ⟨1, 4, 10⟩
def aSlot : SlotFrame := ⟨1, 1, 10, false, 0, [some (.raise 0 1 attrs)]⟩
def aList : ListFrame :=
  ⟨1, 10, (List.range 16).map (fun p => some ⟨p, .normal, false, false, false, 0, attrs, ⟨0, 0, 0⟩⟩)⟩

/-- A configuration image that passes R183: station 3 of four. -/
def imageBody : List Byte :=
  [0x50, 0x24, 1, 0, 3, 4, 3, 8, 0xFF, 0, 0] ++ (List.replicate 16 [1, 2, 0x86]).flatten ++ .replicate 48 0
    ++ [0, 0, 0, 7] ++ .replicate 143 0
def imageBytes : Vector Byte 256 := ⟨⟨imageBody ++ [0xFA, 0x30]⟩, by decide +kernel⟩

/-- The state after a step, when it answers one. -/
def nextState (o : Host.Outcome State Fault Refusal) : Option State :=
  match o with
  | .next t => some t
  | .fault _ => none
  | .refused _ => none

/-! ## WellFormed refuses ill-formed commands -/

theorem test_ill_formed_input : (Instr.inputEvent 16).wellFormed = false := by decide
theorem test_ill_formed_mark : (Instr.markReceived [0x52, 1, 4, 0, 0, 0, 0, 10, 0, 0]).wellFormed = false := by decide
theorem test_ill_formed_slot : (Instr.slotFrameReceived [0x52, 1, 1, 0, 0, 0, 0, 10, 7, 0, 0, 0, 0, 0]).wellFormed = false := by
  decide
theorem test_ill_formed_inside : (Instr.slotFrameReceived (Sending.slot aSlot).bytes [⟨.silencePress, ⟨3, 0⟩⟩]).wellFormed = false := by
  decide +kernel
theorem test_ill_formed_question_in_a_walk :
    (Instr.slotFrameReceived (Sending.slot aSlot).bytes [⟨.ackPress, ⟨1, 1⟩⟩]).wellFormed = false := by decide +kernel
theorem test_ill_formed_own_inside : (Instr.ownSlotFrameSent [⟨.rsta, ⟨8, 0⟩⟩]).wellFormed = false := by decide
theorem test_ill_formed_events_inside : (Instr.ownSlotFrameSent [⟨.eventsWrite 2 0, ⟨1, 0⟩⟩]).wellFormed = false := by decide
theorem test_ill_formed_inside_list :
    (Instr.ownedListReceived (Sending.list aList).bytes [⟨.recordLoad, ⟨16, 1⟩⟩]).wellFormed = false := by decide +kernel
theorem test_ill_formed_list : (Instr.ownedListReceived (0x53 :: .replicate 180 0)).wellFormed = false := by decide +kernel
theorem test_ill_formed_unknown :
    (Instr.unknownCommand 0).wellFormed = false ∧ (Instr.unknownCommand 0x41425254).wellFormed = false
      ∧ (Instr.unknownCommand 0x41434B41).wellFormed = false := by decide
theorem test_ill_formed_overrun : (Instr.overrun 0x41425254).wellFormed = false := by decide
theorem test_ill_formed_events : (Instr.eventsWrite 2 0).wellFormed = false := by decide
theorem test_ill_formed_eventmask : (Instr.eventmaskWrite 2 0).wellFormed = false := by decide
theorem test_ill_formed_counters : (Instr.countersWrite 4 0).wellFormed = false := by decide
theorem test_well_formed :
    ∀ i ∈ [Instr.inputEvent 15, .markReceived (Sending.mark aMark).bytes, 
      .slotFrameReceived (Sending.slot aSlot).bytes [⟨.acka, ⟨2, 0⟩⟩, ⟨.recordLoad, ⟨1, 80⟩⟩, ⟨.clrh, ⟨2, 1⟩⟩, ⟨.eventsWrite 1 0xFF, ⟨1, 80⟩⟩],
      .ownSlotFrameSent [⟨.silencePress, ⟨7, 0⟩⟩] true,
      .ownedListReceived (Sending.list aList).bytes [⟨.recordLoad, ⟨16, 0⟩⟩], .unknownCommand 0x41424344,
      .overrun 0x41434B41, .eventsWrite 1 0, .eventmaskWrite 1 0, .countersWrite 3 0], i.wellFormed = true := by decide +kernel

/-! ## No row gives bits -/

theorem test_no_word_spells_a_command : decodeTableWord 8 0xFF = none := by decide

/-! ## Layouts (ch. 12) -/

/-- R81: the check of the nine characters 123456789. -/
theorem test_check_value : frameCheck [0x31, 0x32, 0x33, 0x34, 0x35, 0x36, 0x37, 0x38, 0x39] = 0x29B1#16 := by
  decide +kernel

/-- R191: the MARK of station 1, S 4, cycle 700, before its check. -/
theorem test_mark_body : markBody ⟨1, 4, 700⟩ = [0x51, 1, 4, 0, 0, 0, 0x02, 0xBC] := by decide

/-- R192: RAISE of point 2, occurrence 7, ALARM, MANUAL-RESET, group 3. -/
theorem test_raise_bytes :
    noticeBytes (.raise 2 7 ⟨.alarm, .manualReset, 3⟩) = [1, 2, 7, 0x36, 0, 0, 0, 0, 0, 0] := by decide

/-- R192: ACK-UPTO with mask zone 2 and limit 701.4.2. -/
theorem test_ack_upto_bytes :
    noticeBytes (.ackUpto 0x02 ⟨701, 4, 2⟩) = [3, 2, 0, 0, 0, 0x02, 0xBD, 4, 2, 0] := by decide

/-- R190, R191: an entry ACKED, active, first-out. -/
theorem test_entry_bytes :
    entryBytes ⟨6, .acked, true, false, true, 8, ⟨.shutdown, .autoReset, 8⟩, ⟨3100, 2, 1⟩⟩
      = [6, 0x2A, 8, 0x81, 0, 0, 0, 0x0C, 0x1C, 2, 1] := by decide

/-- R193, R194: CMD spells the letters, first letter at the lowest address. -/
theorem test_command_letters :
    (List.range 4).map (fun i => windowByte (busy .isol running) (0x1A + i)) = [0x49, 0x53, 0x4F, 0x4C] := by decide +kernel

/-! ## Steps of the worked examples -/

/-- Chapter 1: the raise of (5, 2) under 1204.5.1, the acknowledge by station 3, the clear, the reset. -/
theorem test_manual_reset_example :
    let r0 : PointRecord := { PointRecord.reset with occurrence := 6, lastActor := some 2 }
    let a : Attributes := ⟨.alarm, .manualReset, 0⟩
    let r1 := (applyRaise 7 a ⟨1204, 5, 1⟩ r0).1
    let r2 := (applyAcknowledge 3 r1).1
    let r3 := (applyClear 7 a r2).1
    let r4 := (applyReset 3 r3).1
    (r1.state, r1.alert, r1.lastActor) = (.alert, some ⟨1204, 5, 1⟩, none)
      ∧ (r2.state, r2.lastActor) = (.acked, some 3) ∧ (r3.state, r3.active) = (.ringback, false)
      ∧ (r4.state, r4.occurrence, r4.alert) = (.normal, 7, none) := by decide

/-- Chapter 1: a stale acknowledge changes nothing. -/
theorem test_stale_acknowledge :
    let r : PointRecord := { PointRecord.reset with state := .alert, occurrence := 1, alert := some ⟨1311, 5, 1⟩ }
    applyAckPoint 255 3 r = (r, .stale) := by decide

/-- Chapter 5: station 4 has taken slot 3 as silent; the SLOT frame of station 3 that follows presets the counter, counts
a slip, and brings entry 3 back to LIVE. -/
theorem test_late_frame_presets :
    let f : SlotFrame := ⟨3, 1, 9, true, 0, []⟩
    let s := inSlot 4 { running with link := { running.link with current := ⟨9, 3, 0⟩ } }
    (nextState (exec (.slotFrameReceived (Sending.slot f).bytes) s)).map
        (fun t => (t.link.slips, t.link.position, t.link.current, (t.entry 3).liveness))
      = some (1, .slot 3, ⟨9, 3, 47⟩, .live) := by decide +kernel

/-- Chapter 8: SILENCE takes the current stamp. -/
theorem test_silence_press :
    exec .silencePress running = .next { running with panel := { running.panel with silence := ⟨9, 4, 47⟩ } } := rfl

/-- R148: a silence action before the first notice of a frame takes the current stamp, one after it the notice's stamp. -/
theorem test_silence_inside_a_frame :
    let bytes := (Sending.slot { aSlot with listFollows := true }).bytes
    let silenced (i : Nat) : Option Stamp :=
      (nextState (exec (.slotFrameReceived bytes [⟨.silencePress, ⟨i, 0⟩⟩]) (inSlot 1 running))).map
        (fun t => t.panel.silence)
    silenced 1 = some ⟨9, 4, 47⟩ ∧ silenced 2 = some ⟨10, 1, 1⟩ := by decide +kernel

/-- R40: an ACK press after the first of two raises asks for the stamp of the first alone. -/
theorem test_question_inside_a_frame :
    let f : SlotFrame := { aSlot with listFollows := true, notices := [some (.raise 0 1 attrs), some (.raise 1 1 attrs)] }
    let asked (i : Nat) : Option (List Notice) :=
      (nextState (exec (.slotFrameReceived (Sending.slot f).bytes [⟨.ackPress, ⟨i, 0⟩⟩]) (inSlot 1 running))).map
        (fun t => t.notices.map (·.notice))
    asked 1 = some [] ∧ asked 2 = some [.ackUpto 0xFF ⟨10, 1, 1⟩] ∧ asked 3 = some [.ackUpto 0xFF ⟨10, 1, 2⟩] := by
  decide +kernel

/-- R44: a load at the first entry of the list, before a walk and after its one event, which brings the point to rest. -/
theorem test_load_inside_a_walk :
    let s := (listed .returned (inSlot 1 running)).modifyRecord ⟨1, 0⟩ (fun r => { r with attrs := attrs })
    let f : SlotFrame := { aSlot with listFollows := true, notices := [some (.ackUpto 0xFF ⟨9, 1, 1⟩)] }
    let loaded (events : Nat) : Option (List Byte) :=
      (nextState (exec (.slotFrameReceived (Sending.slot f).bytes [⟨.recordLoad, ⟨1, events⟩⟩]) s)).map
        (fun t => t.port.latch.toList.take 3)
    loaded 0 = some [1, 1, 0] ∧ loaded 1 = some [0, 0, 0] := by decide +kernel

/-- R161: CLRH before, between and after the RAISE entries of two notices; while the station is locked, LOCK REFUSED stands
between them. -/
theorem test_clearing_inside_a_frame :
    let f : SlotFrame := { aSlot with listFollows := true, notices := [some (.raise 0 1 attrs), some (.raise 1 1 attrs)] }
    let logged (locked : Bool) (i : Nat) : Option (List (HistoryKind × Stamp)) :=
      let s := inSlot 1 (if locked then running else unlocked running)
      (nextState (exec (.slotFrameReceived (Sending.slot f).bytes [⟨.clrh, ⟨i, 0⟩⟩]) s)).map
        (fun t => t.history.entries.map (fun e => (e.kind, e.stamp)))
    logged false 1 = some [(.raise, ⟨10, 1, 1⟩), (.raise, ⟨10, 1, 2⟩)] ∧ logged false 2 = some [(.raise, ⟨10, 1, 2⟩)]
      ∧ logged false 3 = some []
      ∧ logged true 2 = some [(.raise, ⟨10, 1, 1⟩), (.lockRefused, ⟨10, 1, 1⟩), (.raise, ⟨10, 1, 2⟩)] := by
  decide +kernel

/-- R167: a write of 1 to NEWALERT before and after the two raises of a frame, and between them, where it is set again. -/
theorem test_events_written_inside_a_frame :
    let f : SlotFrame := { aSlot with listFollows := true, notices := [some (.raise 0 1 attrs), some (.raise 1 1 attrs)] }
    let shown (i : Nat) : Option Bool :=
      (nextState (exec (.slotFrameReceived (Sending.slot f).bytes [⟨.eventsWrite 1 0xFF, ⟨i, 0⟩⟩]) (inSlot 1 running))).map
        (·.hasEvent .newalert)
    let joined (i : Nat) : Option Bool :=
      (nextState (exec (.slotFrameReceived (Sending.slot f).bytes [⟨.eventsWrite 1 0xFF, ⟨i, 0⟩⟩]) (inSlot 1 running))).map
        (·.hasEvent .stajoin)
    (shown 0, shown 2, shown 3) = (some true, some true, some false)
      ∧ (joined 0, joined 2) = (some true, some false) := by decide +kernel

/-- R76, R159: a flush of three notices makes one entry with their count, one of none makes no entry. -/
theorem test_flush_counts_the_notices :
    let s := queued (.replicate 3 (fresh (.shelve 1 0) .command)) running
    (flushNow s).history.entries.map (fun e => (e.kind, e.stamp, e.count)) = [(.queueFlush, ⟨9, 4, 47⟩, some 3)]
      ∧ (flushNow running).history.entries = [] := by decide +kernel

/-- R166: CYCLE read across a change of the cycle number shows the number at its first byte, and MODE the present one. -/
theorem test_whole_field_read :
    let late := { running with link := { running.link with cycle := some 0x0102030405 } }
    readTransaction 0x06 [running, running, late, late, late, late] = [2, 0, 0, 0, 0, 9]
      ∧ readTransaction 0x08 [running, late, late, late] = [0, 3, 4, 5] := by decide

/-- R164: the bits of a read of 50h are 00h and then the byte at 50h, most significant first; none while SSN is high. -/
theorem test_miso_bits :
    let bits (ssnLow : Bool) (from_ : Nat) : List (Option Bool) :=
      (List.range 8).map (fun i => miso ssnLow running 0xD0 [running] (from_ + i))
    bits true 0 = List.replicate 8 (some false)
      ∧ bits true 8 = (msbFirst (windowByte running 0x50)).map some
      ∧ bits false 0 = List.replicate 8 none ∧ misoBits 0x50 [running] = List.replicate 16 false := by decide +kernel

/-- R97: an ACK press inside the own frame finds the queue full, or not when the frame's notice has left it before. -/
theorem test_removal_before_application :
    let f : SlotFrame := ⟨2, 1, 9, false, 0, [some (.shelve 1 5)]⟩
    let s := (full (listed .alert (sending (.slot f) (inSlot 2 running))))
    let s := { s with notices := s.notices.modify 0 (fun q => { q with inFlight := true }) }
    let declined (removedFirst : Bool) : Bool :=
      (applyAndRemove (fallInside [⟨.ackPress, ⟨1, 0⟩⟩]) removedFirst f s).1.hasEvent .qfull
    declined false = true ∧ declined true = false := by decide +kernel

/-- R163: a start with SSN low abandons a transaction that has shifted in no byte to act on. -/
theorem test_start_abandons_an_address_byte :
    (nextState (exec (.resetnLow true) running)).map (fun t => t.port.transaction) = some .abandoned
      ∧ (nextState (exec .resetnLow running)).map (fun t => t.port.transaction) = some .idle := by decide +kernel

/-- R182: CFGDA low before and after two recovery pulses and high after the third, no acknowledge: three pulses, a stop, and
a failed attempt; never high: nine pulses and one stop. -/
theorem test_bus_recovery :
    let r (n : Nat) : BusReadings :=
      ⟨Vector.ofFn (fun i => decide (n ≤ i.val)), true, false, false, []⟩
    attemptSteps (r 3) = [.recoveryPulse, .recoveryPulse, .recoveryPulse, .stop, .start, .send 0xA0, .stop]
      ∧ attemptRow (r 3) = .failedAttempt .noAcknowledge
      ∧ attemptSteps (r 10) = List.replicate 9 .recoveryPulse ++ [.stop]
      ∧ attemptRow (r 10) = .failedAttempt .dataLineHeld ∧ attemptSteps (r 0) = [.start, .send 0xA0, .stop] := by
  decide +kernel

/-- R77: the first character of a MARK on LKTX, 51h, between its start bit and its stop bit; high with nothing sent. -/
theorem test_first_character_on_the_line :
    (List.range 10).map (lktx (sending (.mark aMark) running))
        = [false, true, false, false, false, true, false, true, false, true]
      ∧ lktx running 0 = true := by decide +kernel

/-- R164: the bits of a read of two bytes from 4Fh, with a partial byte: a load of the latch, then the rise of SSN. -/
theorem test_transaction_rows :
    let bits (b : Byte) : List Bool := (List.range 8).map (fun i => b.getLsbD (7 - i))
    transactionRows (bits 0xCF ++ bits 0 ++ bits 0 ++ [true, false]) = [.recordLoad, .ssnRising]
      ∧ transactionRows (bits 0x0D ++ bits 0xFF) = [.registerWrite 0x0D 0xFF, .ssnRising] := by decide +kernel

/-- A step from reset with a command in front runs it. -/
theorem test_step_from_reset :
    step { State.reset with pending := [.configWaitExpiry] }
      = .next { State.reset with loader := { Loader.reset with state := .reading, attempts := 1 } } := rfl

/-! ## The longer checks, in pieces of 45 bytes -/

/-- The n-th piece of 45 bytes. -/
def piece (n : Nat) (bs : List Byte) : List Byte := (bs.drop (45 * n)).take 45

/-- The check of a list's 180 bytes from the remainders after each of four pieces. -/
theorem list_check {f : ListFrame} {a b c d : Check} (h0 : (piece 0 (listBody f)).foldl crcByte 0xFFFF#16 = a)
    (h1 : (piece 1 (listBody f)).foldl crcByte a = b) (h2 : (piece 2 (listBody f)).foldl crcByte b = c)
    (h3 : (piece 3 (listBody f)).foldl crcByte c = d)
    (h : listBody f = piece 0 (listBody f) ++ (piece 1 (listBody f) ++ (piece 2 (listBody f) ++ piece 3 (listBody f)))) :
    frameCheck (listBody f) = d := by
  rw [frameCheck, h, List.foldl_append, List.foldl_append, List.foldl_append, h0, h1, h2, h3]

/-- A list whose first entry is as given. -/
def listFrom (e : ListEntry) : ListFrame := { aList with entries := some e :: aList.entries.drop 1 }

/-- A list with a flagged point in ALERT, and one whose first entry carries point number 1. -/
def flaggedList : ListFrame := listFrom ⟨0, .alert, true, false, true, 1, attrs, ⟨9, 1, 1⟩⟩
def misplacedList : ListFrame := listFrom ⟨1, .normal, false, false, false, 0, attrs, ⟨0, 0, 0⟩⟩

theorem test_list_check : frameCheck (listBody aList) = 0x69D0#16 :=
  list_check (a := 0x1402#16) (b := 0x44D6#16) (c := 0x6E5C#16) (by decide +kernel) (by decide +kernel)
    (by decide +kernel) (by decide +kernel) (by decide +kernel)

theorem test_flagged_list_check : frameCheck (listBody flaggedList) = 0xEF4D#16 :=
  list_check (a := 0xBA00#16) (b := 0x392F#16) (c := 0xD0ED#16) (by decide +kernel) (by decide +kernel)
    (by decide +kernel) (by decide +kernel) (by decide +kernel)

theorem test_misplaced_list_check : frameCheck (listBody misplacedList) = 0x959A#16 :=
  list_check (a := 0xACE2#16) (b := 0x9A7B#16) (c := 0x9F1B#16) (by decide +kernel) (by decide +kernel)
    (by decide +kernel) (by decide +kernel) (by decide +kernel)

theorem test_image_check : frameCheck imageBody = 0xFA30#16 := by
  have h : imageBody = piece 0 imageBody ++ (piece 1 imageBody ++ (piece 2 imageBody ++ (piece 3 imageBody
    ++ (piece 4 imageBody ++ piece 5 imageBody)))) := by decide +kernel
  rw [h]
  simp only [frameCheck, List.foldl_append]
  rw [show List.foldl crcByte 0xFFFF#16 (piece 0 imageBody) = 0x8C60#16 by decide +kernel,
    show List.foldl crcByte 0x8C60#16 (piece 1 imageBody) = 0x3901#16 by decide +kernel,
    show List.foldl crcByte 0x3901#16 (piece 2 imageBody) = 0x3EBA#16 by decide +kernel,
    show List.foldl crcByte 0x3EBA#16 (piece 3 imageBody) = 0x8DE7#16 by decide +kernel,
    show List.foldl crcByte 0x8DE7#16 (piece 4 imageBody) = 0x0942#16 by decide +kernel,
    show List.foldl crcByte 0x0942#16 (piece 5 imageBody) = 0xFA30#16 by decide +kernel]

/-- The OWNED LIST of the tests is read back whole. -/
theorem test_list_is_valid : judge 4 (Sending.list aList).bytes = .list aList := by
  have hb : (Sending.list aList).bytes = listBody aList ++ [0x69, 0xD0] := by
    simp only [Sending.bytes, withCheck, test_list_check]
    decide +kernel
  have ht : List.take ((listBody aList ++ [0x69, 0xD0]).length - 2) (listBody aList ++ [0x69, 0xD0]) = listBody aList := by
    decide +kernel
  simp only [hb, judge, ht, test_list_check]
  decide +kernel

theorem test_flagged_list_is_valid : judge 4 (Sending.list flaggedList).bytes = .list flaggedList := by
  have hb : (Sending.list flaggedList).bytes = listBody flaggedList ++ [0xEF, 0x4D] := by
    simp only [Sending.bytes, withCheck, test_flagged_list_check]
    decide +kernel
  have ht : List.take ((listBody flaggedList ++ [0xEF, 0x4D]).length - 2) (listBody flaggedList ++ [0xEF, 0x4D])
      = listBody flaggedList := by decide +kernel
  simp only [hb, judge, ht, test_flagged_list_check]
  decide +kernel

theorem test_misplaced_list_is_valid : judge 4 (Sending.list misplacedList).bytes = .list misplacedList := by
  have hb : (Sending.list misplacedList).bytes = listBody misplacedList ++ [0x95, 0x9A] := by
    simp only [Sending.bytes, withCheck, test_misplaced_list_check]
    decide +kernel
  have ht : List.take ((listBody misplacedList ++ [0x95, 0x9A]).length - 2) (listBody misplacedList ++ [0x95, 0x9A])
      = listBody misplacedList := by decide +kernel
  simp only [hb, judge, ht, test_misplaced_list_check]
  decide +kernel

/-- The image of the tests is valid; an image of zeros is not. -/
theorem test_image_is_valid : (imageOf imageBytes.toList).isSome = true ∧ imageOf (Vector.replicate 256 (0 : Byte)).toList = none := by
  have hb : imageBytes.toList = imageBody ++ [0xFA, 0x30] := rfl
  have hv : imageHeaderValid (imageBody ++ [0xFA, 0x30]) = true := by
    simp only [imageHeaderValid]
    have ht : List.take 0xFE (imageBody ++ [0xFA, 0x30]) = imageBody := by decide +kernel
    rw [ht, test_image_check]
    decide +kernel
  refine ⟨?_, by decide +kernel⟩
  rw [hb]
  simp only [imageOf, hv]
  decide +kernel

/-! ## What the statements assume can be met -/

theorem test_meets_StepExecutesTheFrontCommand : State.reset.pending = [] := rfl

theorem test_meets_StartsGiveTheStartValues :
    State.reset.supply = true ∧ { State.reset with supply := false }.supply = false ∧ Transaction.writing 0x1B ≠ .idle := by
  decide

theorem test_meets_WarmRestartKeepsTheLog :
    (∃ c, (busy .warm running).up = true ∧ (busy .warm running).port.running = some c ∧ c.code = .warm)
      ∧ (busy .warm running).loader.image = some image ∧ (busy .warm State.reset).loader.image = none
      ∧ (∀ c, running.port.running = some c → c.code ≠ .warm)
      ∧ ∀ c, (busy .isol running).port.running = some c → c.code ≠ .warm := by
  refine ⟨⟨_, rfl, rfl, rfl⟩, rfl, rfl, ?_, ?_⟩
  · intro c h
    cases h
  · intro c h
    cases h
    decide

theorem test_meets_HeldPartIsInactive :
    { running with resetnLow := true }.up = false ∧ { running with powerHold := true }.up = false
      ∧ { running with supply := false }.up = false
      ∧ (∀ selected, Instr.slotEnd ≠ .powerOn selected ∧ Instr.slotEnd ≠ .resetnLow selected)
      ∧ Instr.slotEnd ∉ [Instr.resetnHigh, .powerOnHoldEnd, .lossOfSupply, .ssnRising] := by decide

theorem test_meets_LoaderReadsAndDelivers :
    let reading (n : Nat) (wait : Bool) : State :=
      { State.reset with loader := { Loader.reset with state := .reading, attempts := n, retryWait := wait } }
    (State.reset.up = true ∧ State.reset.loader.state = .waiting)
      ∧ ((reading 2 true).loader.state = .reading ∧ (reading 2 true).loader.retryWait = true)
      ∧ ((reading 2 false).loader.retryWait = false ∧ (reading 2 false).loader.attempts < 3)
      ∧ ((reading 3 false).loader.attempts = 3 ∧ (reading 3 false).link.state = .configuring)
      ∧ imageOf (Vector.replicate 256 (0 : Byte)).toList = none
      ∧ (∃ i, imageOf imageBytes.toList = some i) ∧ (reading 1 false).notices = [] :=
  ⟨⟨rfl, rfl⟩, ⟨rfl, rfl⟩, ⟨rfl, by decide⟩, ⟨rfl, rfl⟩, by decide +kernel,
    Option.isSome_iff_exists.mp test_image_is_valid.1, rfl⟩

theorem test_meets_LoaderReadsAndDelivers_bus :
    let r (n : Nat) (a b c : Bool) : BusReadings := ⟨Vector.ofFn (fun i => decide (n ≤ i.val)), a, b, c, []⟩
    (r 0 false false false).recovery.toList[0]? = some true
      ∧ ((∀ i, i < 9 → (r 9 false false false).recovery.toList[i]? = some false)
        ∧ (r 9 false false false).recovery.toList[9]? = some true)
      ∧ (∀ i, i < 1 → (r 1 false false false).recovery.toList[i]? = some false)
      ∧ (r 1 false false false).recovery.toList[1]? = some true
      ∧ (r 10 false false false).held = true
      ∧ ((r 9 true false false).held = false ∧ (r 9 true false false).deviceWrite = true)
      ∧ (r 0 false true false).wordAddress = true ∧ (r 0 false false true).deviceRead = true
      ∧ ((BusStep.send 0x80).levels[2]? = some ⟨false, true⟩ ∧ (BusStep.send 0x80).levels[3]? = some ⟨false, false⟩)
      ∧ (State.reset.loader.state ≠ .reading ∧ { running with resetnLow := true }.up = false) := by decide

theorem test_meets_ImageValidity :
    (imageOf imageBytes.toList).isSome = true ∧ (imageOf (Vector.replicate 256 (0 : Byte)).toList).isSome = false :=
  ⟨test_image_is_valid.1, by rw [test_image_is_valid.2]; rfl⟩

theorem test_meets_InputSampleFilters :
    (State.reset.up = true ∧ State.reset.configured = false)
      ∧ (running.up = true ∧ running.configured = true ∧ (running.inputConfig 15).used = true)
      ∧ (InputState.reset.filtered = .unsettled ∧ InputState.reset.count = 0)
      ∧ (let i := { InputState.reset with count := 1 }; i.count ≠ 0 ∧ false = i.candidate ∧ true ≠ i.candidate)
      ∧ (let i := { InputState.reset with filtered := .active }; i.filtered = if true then .active else .inactive)
      ∧ (running.input 15).filtered = .unsettled := by decide +kernel

theorem test_meets_InputEventCoalesces :
    let r := fresh (.raise 15 1 attrs)
    let c := fresh (.clear 15 1 attrs)
    let flying := fresh (.clear 15 1 attrs) .input true
    let at12 (qs : List QueuedNotice) := queued (List.replicate (12 - qs.length) (fresh (.shelve 1 0)) ++ qs)
    (running.up = true ∧ running.link.state = .running ∧ (running.inputConfig 15).used = true)
      ∧ ((activated running).noticesFor 15 = [] ∧ (activated running).filteredActive 15 = true
          ∧ ((activated running).input 15).announced = false ∧ (activated running).notices.length < 12)
      ∧ ((announced running).filteredActive 15 = false ∧ ((announced running).input 15).announced = true)
      ∧ ((queued [r] running).noticesFor 15 = [r] ∧ (queued [r] running).filteredActive 15 = false)
      ∧ ((queued [r, c] (activated running)).noticesFor 15 = [r, c] ∧ c.inFlight = false)
      ∧ ((queued [c] (announced (activated running))).noticesFor 15 = [c]
          ∧ ((queued [c] (announced (activated running))).input 15).announced = true)
      ∧ ((queued [flying] (activated running)).noticesFor 15 = [] ++ [flying] ∧ flying.inFlight = true)
      ∧ ((full (activated running)).filteredActive 15 ≠ (full (activated running)).projected 15
          ∧ (full (activated running)).noticesFor 15 = [] ∧ 12 ≤ (full (activated running)).notices.length)
      ∧ ((at12 [c] (announced (activated running))).noticesFor 15 = [] ++ [c]
          ∧ (at12 [r, c] (activated running)).noticesFor 15 = [r] ++ [c]
          ∧ 12 ≤ (at12 [r, c] (activated running)).notices.length)
      ∧ running.filteredActive 15 = running.projected 15 := by decide +kernel

theorem test_meets_ButtonFiltersAndFlashClock :
    let s := { running with panel := { running.panel with flash := 999 } }
    false = (ButtonState.mk false 0).pressed
      ∧ (true ≠ (ButtonState.mk false 18).pressed ∧ (ButtonState.mk false 18).count < 19)
      ∧ (true ≠ (ButtonState.mk false 19).pressed ∧ (ButtonState.mk false 19).count = 19)
      ∧ (s.up = true ∧ s.panel.flash ≤ 999)
      ∧ hornSound ((listed .alert running).modifyRecord ⟨1, 0⟩ (fun r => { r with attrs := ⟨.shutdown, .manualReset, 0⟩ }))
        = .pulsed := by decide +kernel

theorem test_meets_PressesFormTheirNotices :
    (station .joining).link.state ≠ .running
      ∧ (running.newest acknowledgeable running.viewMask = none ∧ running.newest resettable running.viewMask = none)
      ∧ (listed .alert running).newest acknowledgeable (listed .alert running).viewMask = some ⟨9, 1, 1⟩
      ∧ (listed .ringback running).newest resettable (listed .ringback running).viewMask = some ⟨9, 1, 1⟩
      ∧ (listed .alert running).notices.length < 12 ∧ 12 ≤ (full (listed .alert running)).notices.length
      ∧ 12 ≤ (full (listed .ringback running)).notices.length := by decide +kernel

theorem test_meets_LocalResetReleasesTheLatch :
    let g (n : Nat) : GroupUnit := { GroupUnit.reset with demand := n, latch := true }
    GroupUnit.reset.latch = false ∧ ((g 0).latch = true ∧ (g 0).demand = 0) ∧ ((g 1).latch = true ∧ 0 < (g 1).demand)
      ∧ running.mailboxIdle = true ∧ running.configured = true ∧ running.groups.demand = 0 := by decide

/-- A running station in a modal state. -/
def inMode (m : Modal) (s : State) : State := { s with port := { s.port with modal := m } }

theorem test_meets_LampTestStartsAndEnds :
    running.up = true ∧ running.link.state ≠ .isolated ∧ (inMode (.lampTest none) running).port.modal = .lampTest none
      ∧ (∀ d, running.port.modal ≠ .lampTest d)
      ∧ (inMode (.lampTest (some 1)) running).port.modal = .lampTest (some 1) :=
  ⟨rfl, by decide, rfl, fun _ h => Modal.noConfusion h, rfl⟩

theorem test_meets_RejoinLeavesIsolation :
    let s := inMode (.isolated (some 255)) (station .isolated)
    s.up = true ∧ s.link.state = .isolated ∧ s.notices = [] ∧ 1 ≤ s.own ∧ s.own ≤ 24
      ∧ s.port.modal = .isolated (some 255) ∧ s.mailboxIdle = true := by decide

theorem test_meets_LampsAndHorn :
    let z (a b c : Nat) : State := { running with groups := { running.groups with zones := .replicate 8 ⟨a, b, c⟩ } }
    let r (s : State) : State := s.modifyRecord ⟨1, 0⟩ (fun r => { r with attrs := ⟨.shutdown, .manualReset, 0⟩ })
    ((inMode (.lampTest none) running).lampTesting = true ∧ running.lampTesting = false ∧ running.windowMap 23 = none
        ∧ running.windowMap 0 = some ⟨1, 0⟩ ∧ 0 < ((z 1 0 0).zone 8).alerting)
      ∧ (((z 0 1 1).zone 8).alerting = 0 ∧ 0 < ((z 0 1 1).zone 8).lost)
      ∧ (((z 0 1 0).zone 8).lost = 0 ∧ 0 < ((z 0 1 0).zone 8).standing) ∧ ((z 0 0 0).zone 8).standing = 0
      ∧ hornSound (r (listed .alert { running with link := { running.link with current := ⟨9, 1, 47⟩ } })) = .pulsed
      ∧ (station .conflict).link.state = .conflict ∧ (station .joining).link.state = .joining
      ∧ ((running.modifyEntry 24 (fun e => { e with liveness := .lost })).entry 24).liveness = .lost
      ∧ running.list.unlistedCount = 0 := by decide +kernel

theorem test_meets_FrameStartsAndInvalidFrames :
    (running.up = true ∧ running.configured = true ∧ running.link.reception = .idle ∧ running.link.sending = none)
      ∧ (receiving .frame running).link.reception ≠ .idle ∧ running.link.position = .markPhase
      ∧ (∀ k, (receiving .frame running).link.position ≠ .slot k)
      ∧ (receiving .frame (inSlot 4 running)).link.position = .slot 4
      ∧ (receiving .mixed running).link.reception = .mixed :=
  ⟨⟨rfl, rfl, rfl, rfl⟩, by decide, rfl, fun _ h => Position.noConfusion h, rfl, rfl⟩

theorem test_meets_FrameValidityAndCheck :
    judge 4 (Sending.mark aMark).bytes ≠ .invalid ∧ judge 4 (Sending.slot aSlot).bytes ≠ .invalid
      ∧ judge 4 (Sending.mark ⟨5, 4, 10⟩).bytes = .invalid := by decide +kernel

/-- What the statements about a received frame ask of the station. -/
theorem test_meets_MarkIsApplied :
    running.up = true ∧ running.link.state.appliesFrames = true ∧ running.link.sending = none
      ∧ judge running.slots (Sending.mark aMark).bytes = .mark aMark ∧ aMark.sender ≠ running.own ∧ aMark.sender ≤ 24
      ∧ aMark.slots = running.slots ∧ running.link.position ≠ .unsynchronised ∧ running.link.cycle = some 9
      ∧ 9 < aMark.cycle ∧ running.agreement.deferred = none := by decide +kernel

/-- A notice of the Scanner for input 15 that the next MARK discards. -/
def old : QueuedNotice := fresh (.raise 15 1 attrs) .input false 7

theorem test_meets_DiscontinuityRebuildsTheTables :
    let same : MarkFrame := ⟨1, 4, 9⟩
    let lower : SlotFrame := ⟨4, 1, 8, false, 0, []⟩
    let marked := queued [⟨.shelve 1 0, .command, 0, false, true⟩] (busy .shlv running)
    (running.up = true ∧ running.link.state.appliesFrames = true ∧ running.link.sending = none
        ∧ running.link.position ≠ .unsynchronised ∧ running.link.cycle = some 9 ∧ running.agreement.deferred = none
        ∧ 1 ≤ running.own ∧ running.own ≤ 24)
      ∧ (judge running.slots (Sending.mark same).bytes = .mark same ∧ same.sender ≠ running.own ∧ same.sender ≤ 24
        ∧ same.slots = running.slots ∧ same.cycle ≤ 9 ∧ running.notices = [])
      ∧ (judge running.slots (Sending.slot lower).bytes = .slot lower ∧ lower.sender ≠ running.own ∧ lower.sender ≤ 24
        ∧ lower.cycle < 9 ∧ lower.notices = [] ∧ (running.entry 4).liveness ≠ .lost)
      ∧ running.link.state.sends = true ∧ (station .isolated).link.state.sends = false
      ∧ ∃ q ∈ marked.notices, q.cmdMark = true := by decide +kernel

theorem test_meets_NoticesAgeAtAMark :
    (∀ q ∈ [fresh (.raise 0 1 attrs) .input false 6], q.age < 7)
      ∧ (∃ q ∈ [old], 7 ≤ q.age) ∧ (∃ q ∈ [({ old with cmdMark := true } : QueuedNotice)], 7 ≤ q.age ∧ q.cmdMark = true)
      ∧ (fresh (.resyncRequest 24) .agreement false 7).notice = .resyncRequest 24
      ∧ (∀ q ∈ [fresh (.join true) .link false 7], 7 ≤ q.age → inputPoints [q] = [])
      ∧ ((queued [old] running).noticesFor 15 = [old] ∧ (∀ x ∈ [old], 7 ≤ x.age → x = old)
        ∧ (queued [old] running).notices.length < 12 ∧ running.link.state = .running ∧ (running.inputConfig 15).used = true)
      ∧ ((activated running).filteredActive 15 = true ∧ ((activated running).input 15).announced = false)
      ∧ ((announced running).filteredActive 15 = false ∧ ((announced running).input 15).announced = true)
      ∧ running.filteredActive 15 = (running.input 15).announced := by decide +kernel

theorem test_meets_LapsesAndEntryToRunning :
    let entry (f : DirEntry → DirEntry) : State := (station .joining).modifyEntry 24 f
    let sent (need : Option Bool) (s : State) : State := { s with link := { s.link with joinSent := need } }
    ((station .mismatch).link.state = .mismatch ∧ running.link.state ≠ .mismatch)
      ∧ ((running.entry 24).resync = none ∧ ((entry (fun e => { e with resync := some 1 })).entry 24).resync = some 1
        ∧ ((entry (fun e => { e with resync := some 2 })).entry 24).resync = some 2)
      ∧ ((running.entry 24).joinWait = none ∧ ((entry (fun e => { e with joinWait := some 1 })).entry 24).joinWait = some 1
        ∧ ((entry (fun e => { e with joinWait := some 2 })).entry 24).joinWait = some 2)
      ∧ ((station .joining).up = true ∧ (station .joining).link.state = .joining ∧ (station .joining).link.joinSent = none
        ∧ judge (station .joining).slots (Sending.mark aMark).bytes = .mark aMark ∧ 9 < aMark.cycle)
      ∧ ((sent (some true) (entry (fun e => { e with joinWait := some 0 }))).link.joinSent = some true
        ∧ ((sent (some true) (entry (fun e => { e with joinWait := some 0 }))).entry 24).joinWait ≠ none)
      ∧ (∀ k, k ≤ 24 → ((sent (some true) (station .joining)).entry k).joinWait = none)
      ∧ (sent (some false) (station .joining)).link.joinSent = some false := by decide +kernel

theorem test_meets_SlotFrameIsApplied :
    let late := { running with link := { running.link with cycle := some 10, current := ⟨10, 1, 47⟩ } }
    let none' : SlotFrame := { aSlot with zone := 0 }
    (judge running.slots (Sending.slot aSlot).bytes = .slot aSlot ∧ aSlot.sender ≠ running.own ∧ aSlot.sender ≤ 24
        ∧ running.link.cycle = some 9 ∧ 9 ≤ aSlot.cycle)
      ∧ (1 ≤ aSlot.zone ∧ aSlot.zone ≤ 8) ∧ judge running.slots (Sending.slot none').bytes = .slot none'
      ∧ (running.agreement.rebuildCycle = none ∧ running.agreement.deferred = none
        ∧ aSlot.notices[0]? = some (some (.raise 0 1 attrs)))
      ∧ (late.link.cycle = some aSlot.cycle ∧ Stamp.earlier late.link.current ⟨10, aSlot.sender, 1⟩ = false
        ∧ late.agreement.deferred = none) := by decide +kernel

theorem test_digest_differs (d : Check) : d ≠ d + 1 := by bv_omega

theorem test_meets_DigestComparisonAndRequests :
    let live := running.modifyEntry 24 (fun e => { e with liveness := .live })
    let ended := { inSlot 4 running with link := { (inSlot 4 running).link with slotEndTimer := .runningToward 24 } }
    (({ aSlot with sender := 2 } : SlotFrame).sender = running.own ∧ running.link.state.barred = false)
      ∧ (aSlot.sender ≠ running.own ∧ (station .conflict).link.state.barred = true
        ∧ ({ aSlot with listFollows := true } : SlotFrame).listFollows = true ∧ aSlot.listFollows = false)
      ∧ (station .isolated).link.state = .isolated ∧ (station .joining).link.state = .joining
      ∧ ((running.entry 24).liveness ≠ .live ∧ (live.entry 24).liveness = .live ∧ (live.entry 24).resync = none
        ∧ live.link.state.sends = true ∧ live.notices.length < 12 ∧ 12 ≤ (full live).notices.length)
      ∧ (running.agreement.deferred = none ∧ ended.up = true ∧ ended.link.position = .slot 4
        ∧ ended.link.slotEndTimer ≠ .stopped) := by decide +kernel

/-- The digests of these statements: one that agrees, one that does not, and a deferred one that does not. -/
theorem test_meets_DigestComparison_digests :
    let deferring := { running with agreement := { running.agreement with deferred := some (1, running.digest 1 + 1) } }
    running.digest 24 = running.digest 24 ∧ running.digest 24 ≠ running.digest 24 + 1
      ∧ deferring.agreement.deferred = some (1, running.digest 1 + 1) ∧ deferring.digest 1 ≠ running.digest 1 + 1 :=
  ⟨rfl, test_digest_differs _, rfl, test_digest_differs _⟩

theorem test_meets_JoinAndResyncNotices :
    (running.link.state = .running ∧ (station .joining).link.state = .joining ∧ (station .conflict).link.state ≠ .running
        ∧ (station .conflict).link.state ≠ .joining ∧ 1 ≤ (station .joining).own ∧ (station .joining).own ≤ 24)
      ∧ (2 = running.own ∧ running.link.state.sends = true ∧ (station .conflict).link.state.sends = false ∧ 24 ≠ running.own)
      ∧ running.notices.length + (addresses.filter (fun k => (running.entry k).stale)).length ≤ 12 := by decide +kernel

theorem test_meets_ZonesAndReturnFromLost :
    let zoned := running.modifyEntry 1 (fun e => { e with zone := some 1, liveness := .lost })
    let lost := (zoned.modifyRecord ⟨1, 16⟩ (fun r => { r with active := true, state := .alert }))
    let standing := (zoned.modifyRecord ⟨1, 16⟩ (fun r =>
      { r with active := true, state := .acked, attrs := ⟨.alarm, .manualReset, 0⟩ }))
    let f : SlotFrame := ⟨1, 1, 10, true, 0, []⟩
    (zoned.zoneOf 1 = some 1 ∧ zoned.zoneOf 1 ≠ some 8 ∧ running.zoneOf 24 ≠ some 1
        ∧ running.groups.demand = running.causes.length)
      ∧ (lost.up = true ∧ lost.link.state.appliesFrames = true ∧ lost.link.sending = none
        ∧ judge lost.slots (Sending.slot f).bytes = .slot f ∧ f.sender ≠ lost.own ∧ lost.link.position ≠ .unsynchronised
        ∧ lost.link.cycle = some 9 ∧ 9 < f.cycle ∧ lost.agreement.deferred = none ∧ f.notices = []
        ∧ (lost.entry f.sender).liveness = .lost ∧ lost.zoneOf f.sender = some f.zone ∧ f.listFollows = true)
      ∧ ((lost.record ⟨1, 16⟩).active = true ∧ (lost.record ⟨1, 16⟩).state = .alert)
      ∧ ((standing.record ⟨1, 16⟩).state = .acked ∧ (standing.record ⟨1, 16⟩).attrs.seq = .manualReset) := by
  decide +kernel

theorem test_meets_OwnedListReplacesRecords :
    (judge running.slots (Sending.list aList).bytes = .list aList ∧ aList.sender ≠ running.own
        ∧ running.link.state.appliesFrames = true ∧ running.link.position ≠ .unsynchronised)
      ∧ (∃ es, listEntries aList = some es)
      ∧ (judge running.slots (Sending.list misplacedList).bytes = .list misplacedList ∧ listEntries misplacedList = none)
      ∧ (judge running.slots (Sending.list flaggedList).bytes = .list flaggedList ∧ running.holder 1 = none
        ∧ ∃ es, listEntries flaggedList = some es ∧ ∀ x ∈ es, x.point ≠ 0 → x.attrs.group ≠ 1 ∨ x.firstOut = false)
      ∧ (inSlot 1 running).link.position = .slot 1 ∧ (inSlot 1 running).link.confirmed = true
      ∧ (station .joining).link.state = .joining :=
  ⟨⟨test_list_is_valid, by decide, rfl, by decide⟩, Option.isSome_iff_exists.mp (by decide +kernel),
    ⟨test_misplaced_list_is_valid, by decide +kernel⟩,
    ⟨test_flagged_list_is_valid, by decide +kernel,
      ((listEntries flaggedList).get (by decide +kernel)), by decide +kernel, by decide +kernel⟩, rfl, rfl, rfl⟩

theorem test_meets_ConflictAndMismatch :
    let own := (Sending.mark ⟨2, 4, 10⟩).bytes
    running.up = true ∧ running.link.state.mayBeBarred = true ∧ running.link.sending = none
      ∧ judge running.slots own ≠ .invalid ∧ (byteAt own 1).toNat = running.own
      ∧ judge running.slots (Sending.mark ⟨1, 8, 10⟩).bytes = .mark ⟨1, 8, 10⟩ ∧ 1 ≠ running.own ∧ 8 ≠ running.slots
      ∧ byteAt own 0 ≠ 0x53 ∧ running.notices = [] ∧ (full running).notices ≠ [] ∧ (station .isolated).link.state.mayBeBarred = true
      ∧ 1 ≤ running.own ∧ running.own ≤ 24 := by
  decide +kernel

theorem test_meets_ConflictAndMismatch_list :
    let first := { running with loader := { running.loader with image := some { image with address := 1 } } }
    let bytes := (Sending.list aList).bytes
    first.up = true ∧ first.link.state.mayBeBarred = true ∧ first.link.sending = none
      ∧ judge first.slots bytes = .list aList ∧ (byteAt bytes 1).toNat = first.own ∧ byteAt bytes 0 = 0x53
      ∧ ∀ x ∈ [(⟨.clrh, ⟨1, 0⟩⟩ : Inside)], ∀ o v, x.action ≠ .eventsWrite o v :=
  ⟨rfl, rfl, rfl, test_list_is_valid, by decide +kernel, by decide +kernel, by simp⟩

theorem test_meets_SecondMarkBringsJoining :
    let s := station .listening
    let seen := { s with link := { s.link with markSeen := true } }
    s.link.state = .listening ∧ s.link.markSeen = false ∧ seen.link.markSeen = true
      ∧ seen.link.current.cycle < aMark.cycle ∧ seen.notices = [] ∧ 1 ≤ seen.own ∧ seen.own ≤ 24
      ∧ judge seen.slots (Sending.mark aMark).bytes = .mark aMark := by decide +kernel

theorem test_meets_CollisionAbandonsTheFrame :
    let m := sending (.mark ⟨2, 4, 10⟩) running
    let again := { m with link := { m.link with markCollisions := 1 } }
    let l := sending (.slot aSlot) { running with link := { running.link with ownCollisions := 1 } }
    (m.up = true ∧ m.link.sending.isSome = true ∧ m.link.markCollisions = 0 ∧ m.port.running = none)
      ∧ (again.link.state.mayBeBarred = true ∧ again.link.markCollisions = 1)
      ∧ (∀ f, l.link.sending ≠ some (.mark f)) ∧ l.link.ownCollisions = 1
      ∧ (let once := sending (.slot aSlot) (queued [fresh (.raise 15 1 attrs) .input true] (announced (activated running)))
         (∀ f, once.link.sending ≠ some (.mark f)) ∧ once.link.ownCollisions = 0 ∧ once.isolationWaits = false
          ∧ once.port.running = none ∧ ∀ p, p ≤ 15 → once.hasChange p = false) :=
  ⟨⟨rfl, rfl, rfl, rfl⟩, ⟨rfl, rfl⟩, fun _ h => Sending.noConfusion (Option.some.inj h), rfl,
    fun _ h => Sending.noConfusion (Option.some.inj h), rfl, rfl, rfl, by decide +kernel⟩

theorem test_meets_SlotFrameIsSent :
    let s := queued (.replicate 7 (fresh (.raise 0 1 attrs))) (inSlot 2 running)
    let heard := receiving .frame s
    let joins := queued [fresh (.join true) .link] { s with link := { s.link with ownInitialised := false } }
    (s.up = true ∧ s.link.cycle = some 9 ∧ s.link.sendDue = true ∧ s.link.state.sends = true
        ∧ s.link.position = .slot s.own ∧ s.link.sending = none ∧ s.link.foundingSlot = false)
      ∧ (∀ q ∈ s.notices, q.inFlight = false)
      ∧ (s.link.silenceTimer ≠ .stopped ∧ s.link.reception = .idle) ∧ heard.link.reception ≠ .idle
      ∧ s.link.ownInitialised = true ∧ (s.notices.take 6).any isJoin = false
      ∧ (joins.link.ownInitialised = false ∧ (joins.notices.take 6).any isJoin = true ∧ 1 ≤ joins.own ∧ joins.own ≤ 24) := by
  decide

theorem test_meets_FoundersSlot :
    let s := queued [fresh (.join false) .link]
      (inSlot 2 { running with link := { running.link with cycle := some 1, foundingSlot := true } })
    let first := { s with link := { s.link with ownInitialised := false } }
    (s.up = true ∧ s.link.cycle = some 1 ∧ s.link.sendDue = true ∧ s.link.state = .running
        ∧ s.link.position = .slot s.own ∧ s.link.sending = none ∧ s.link.foundingSlot = true ∧ 1 ≤ s.own ∧ s.own ≤ 24
        ∧ (∀ q ∈ s.notices, q.inFlight = false) ∧ s.link.silenceTimer ≠ .stopped ∧ s.link.reception = .idle)
      ∧ s.link.ownInitialised = true ∧ first.link.ownInitialised = false := by decide

theorem test_meets_OwnSlotFrameIsApplied :
    let f : SlotFrame := ⟨2, 1, 9, false, 0, []⟩
    let s := sending (.slot f) (inSlot 2 running)
    s.up = true ∧ s.link.sending = some (.slot f) ∧ f.sender = s.own ∧ 1 ≤ s.own ∧ s.own ≤ 24
      ∧ s.link.state.sends = true ∧ s.link.cycle = some f.cycle ∧ s.isolationWaits = false
      ∧ ((busy .isol s).isolationWaits = true ∧ ∀ q ∈ (busy .isol s).notices, q.cmdMark = false) := by decide

theorem test_meets_OwnedListIsSent :
    let due := { running with link := { running.link with listDue := true } }
    let s := sending (.list aList) (inSlot 2 running)
    (due.up = true ∧ due.link.listDue = true ∧ due.link.state.sends = true ∧ due.link.sending = none)
      ∧ s.link.sending = some (.list aList) ∧ s.link.position = .slot 2 ∧ s.isolationWaits = false
      ∧ ((busy .isol s).isolationWaits = true ∧ s.link.state.sends = true ∧ s.notices = []) := by decide

theorem test_meets_OwnMarkIsSentAndApplied :
    let due := { running with link := { running.link with markTimer := .runningToward 96 } }
    let f : MarkFrame := ⟨2, 4, 10⟩
    let s := sending (.mark f) running
    (due.up = true ∧ due.link.markTimer ≠ .stopped ∧ due.entitled = true ∧ due.link.sending = none)
      ∧ (s.link.sending = some (.mark f) ∧ s.link.cycle = some 9 ∧ 9 < f.cycle ∧ s.isolationWaits = false)
      ∧ ((busy .isol s).isolationWaits = true ∧ s.link.state = .running ∧ s.notices = []
        ∧ ∀ k, k ≤ 24 → (s.entry k).resync = none) := by decide +kernel

theorem test_meets_QuietLinkAndFounding :
    let s := station .listening
    let due := { s with link := { s.link with markTimer := .runningToward 96, quiet := 65536 } }
    (s.up = true ∧ s.link.state = .listening ∧ s.link.quiet < 65536)
      ∧ (due.link.markTimer ≠ .stopped ∧ due.notices = [] ∧ 1 ≤ due.own ∧ due.own ≤ 24)
      ∧ (station .joining).link.state = .joining ∧ (station .joining).link.quiet < 65536 := by decide

theorem test_meets_SlotsEnd :
    let s := inSlot 4 running
    let lost := s.modifyEntry 4 (fun e => { e with liveness := .silent2 })
    let unsure := { s with link := { s.link with confirmed := false } }
    let ended := { s with link := { s.link with slotEndTimer := .runningToward 24 } }
    (s.up = true ∧ s.link.position = .slot 4 ∧ s.link.silenceTimer ≠ .stopped ∧ s.link.state.appliesFrames = true
        ∧ s.link.confirmed = true ∧ s.link.cycle = some 9)
      ∧ ((lost.entry 4).liveness = .silent2 ∧ (lost.record ⟨4, 16⟩).active = false
        ∧ (lost.record ⟨4, 16⟩).state = .normal)
      ∧ (unsure.link.confirmed = false ∧ unsure.agreement.deferred = none)
      ∧ (ended.link.position = .slot 4 ∧ ended.link.slotEndTimer ≠ .stopped ∧ ended.slots ≤ 4)
      ∧ (inSlot 3 running).link.lengthTimer ≠ .stopped ∧ 3 < (inSlot 3 running).slots := by decide +kernel

theorem test_meets_TableTreatmentRecomputes :
    (1 ≤ running.own ∧ running.own ≤ 24) ∧ running.groups.demand = running.causes.length := by decide +kernel

theorem test_meets_SelectionsAndWalks :
    let s := listed .alert running
    s.newest acknowledgeable 1 = some ⟨9, 1, 1⟩ ∧ running.newest resettable 1 = none
      ∧ ⟨1, 0⟩ ∈ s.selection acknowledgeable 1 ⟨9, 1, 1⟩ ∧ s.list.entries.Nodup := by decide +kernel

theorem test_meets_CommandsRefusedOrCountedAtOnce :
    (State.reset.mailboxIdle = true ∧ State.reset.configured = false ∧ CommandCode.lkey ≠ .warm)
      ∧ (∃ c, (busy .isol running).serves = true ∧ (busy .isol running).port.running = some c)
      ∧ Instr.lkey = Instr.ofCommand .lkey ∧ running.mailboxIdle = true
      ∧ (0x41424344 : Word32) ≠ 0 ∧ (0x41424344 : Word32) ≠ abortWord ∧ commandOf 0x41424344 = none :=
  ⟨by decide, ⟨_, rfl, rfl⟩, rfl, rfl, by decide, by decide, by decide⟩

/-- A listed station with zero in CMDDATA. -/
def asking (st : PointState) : State :=
  let s := listed st running
  { s with port := { s.port with data := .replicate 16 0 } }

theorem test_meets_NoticeCommandsQueueTheirNotice :
    (running.mailboxIdle = true ∧ running.link.state = .running ∧ running.notices.length < 12)
      ∧ limitInput (asking .alert).port.data acknowledgeable (asking .alert) = some ⟨9, 1, 1⟩
      ∧ limitInput running.port.data acknowledgeable running = none
      ∧ limitInput (asking .ringback).port.data resettable (asking .ringback) = some ⟨9, 1, 1⟩
      ∧ limitInput running.port.data resettable running = none
      ∧ ackpInRange (withInputs 24 running).port.data = true
      ∧ (unlocked (withInputs 24 running)).unlocked = true
      ∧ shelveInRange (unlocked (withInputs 24 running)).port.data = true := by decide +kernel

theorem test_meets_NoticeCommandChecks :
    (running.mailboxIdle = true ∧ running.configured = true ∧ running.unlocked = false)
      ∧ (station .joining).link.state ≠ .running ∧ (unlocked (station .joining)).unlocked = true
      ∧ ackpInRange (withInputs 25 running).port.data = false ∧ shelveInRange (withInputs 25 running).port.data = false
      ∧ (12 ≤ (full (asking .alert)).notices.length
        ∧ limitInput (asking .alert).port.data acknowledgeable (full (asking .alert)) ≠ none
        ∧ limitInput (asking .ringback).port.data resettable (full (asking .ringback)) ≠ none)
      ∧ ackpInRange (full (withInputs 1 running)).port.data = true
      ∧ ((full (unlocked (withInputs 24 running))).unlocked = true
        ∧ shelveInRange (full (unlocked (withInputs 24 running))).port.data = true) := by decide +kernel

theorem test_meets_AppliedNoticeCompletesItsCommand :
    (∃ c, (busy .acka running).port.running = some c ∧ c.code = .acka)
      ∧ (∃ c, (busy .ackp running).port.running = some c ∧ c.code = .ackp)
      ∧ ∃ c, (busy .unsh running).port.running = some c ∧ c.code = .unsh :=
  ⟨⟨_, rfl, rfl⟩, ⟨_, rfl, rfl⟩, ⟨_, rfl, rfl⟩⟩

theorem test_meets_LocalCommandsCompleteAtOnce :
    let rebuilding := { running with agreement := { running.agreement with rebuildCycle := some 9 } }
    (running.agreement.rebuildCycle = none ∧ rebuilding.agreement.rebuildCycle = some 9)
      ∧ running.mailboxIdle = true ∧ running.configured = true ∧ (unlocked running).unlocked = true
      ∧ secondsInput running.port.data = 0 ∧ secondsInput (withInputs 255 running).port.data = 255
      ∧ (withInputs 1 (station .isolated)).link.state = .isolated := by decide +kernel

theorem test_meets_IsolationIsTakenOrDeclined :
    (unlocked running).mailboxIdle = true ∧ (unlocked running).unlocked = true ∧ running.link.sending = none
      ∧ running.notices = [] ∧ (sending (.list aList) (unlocked running)).link.sending ≠ none
      ∧ (unlocked (station .isolated)).unlocked = true ∧ (unlocked (station .mismatch)).unlocked = true
      ∧ (full (unlocked running)).notices ≠ [] ∧ running.mailboxIdle = true ∧ running.unlocked = false
      ∧ running.configured = true ∧ running.link.state ≠ .isolated := by decide +kernel

theorem test_meets_LockKeyTable :
    let other := { running with port := { running.port with key := 8 } }
    running.mailboxIdle = true ∧ running.configured = true ∧ running.loader.image = some image ∧ running.port.key = 0
      ∧ keyInput running.port.data = 0 ∧ (keyInput (withInputs 1 running).port.data ≠ 0
        ∧ keyInput (withInputs 1 running).port.data ≠ image.unlock)
      ∧ other.port.key ≠ 0 ∧ other.port.key ≠ image.unlock := by decide +kernel

theorem test_meets_AbortTable :
    let q (b : Bool) : QueuedNotice := ⟨.shelve 1 0, .command, 0, b, true⟩
    let s (b : Bool) := queued [q b] (busy .shlv running)
    running.port.running = none ∧ (∃ c, (busy .warm running).port.running = some c ∧ c.code = .warm)
      ∧ (∃ c, (busy .isol running).port.running = some c ∧ c.code = .isol)
      ∧ (∃ c, (s true).port.running = some c ∧ c.code ∈ [CommandCode.acka, .ackp, .rsta, .shlv, .unsh])
      ∧ (s true).commandNotice = some (q true) ∧ (s false).commandNotice = some (q false)
      ∧ (s false).notices.length < 12 :=
  ⟨rfl, ⟨_, rfl, rfl⟩, ⟨_, rfl, rfl⟩, ⟨_, rfl, by decide⟩, rfl, rfl, by decide⟩

theorem test_meets_IrqnFollowsFlagsAndEnables :
    running.up = true ∧ (setEvent .cfgflt running).hasEvent .cfgflt = true := by decide

theorem test_meets_RecordSelectorAndLatch :
    (running.serves = true ∧ 3 < (4 : Byte).toNat ∧ running.port.index < running.port.object.size)
      ∧ running.list.entries.length ≤ 0 ∧ (listed .alert running).list.entries[0]? = some ⟨1, 0⟩
      ∧ running.history.entries.length ≤ 47 ∧ running.port.index < 65536
      ∧ (State.reset.loader.image = none ∧ running.loader.image = some image ∧ State.reset.link.cycle = none
        ∧ running.link.cycle = some 9 ∧ running.port.running = none)
      ∧ ∃ c, (busy .warm running).port.running = some c ∧ c.code = .warm := by
  exact ⟨by decide, by decide, by decide, by decide, by decide, ⟨rfl, rfl, rfl, rfl, rfl⟩, _, rfl, rfl⟩

theorem test_meets_RegisterWritesByPlace :
    (running.serves = true ∧ (0x0B : BitVec 7).toNat < 0x0C ∧ (0x19 : BitVec 7).toNat < 0x1A ∧ (0x7F : BitVec 7).toNat ≥ 0x31)
      ∧ (0x0D : BitVec 7).toNat < 0x0E ∧ (0x0F : BitVec 7).toNat < 0x10
      ∧ (0x13 : BitVec 7).toNat < 0x14 ∧ (0x2D : BitVec 7).toNat = 0x1E + 15 ∧ (0x1C : BitVec 7).toNat = 0x1A + 2
      ∧ CommandCode.warm.word = (0x57 : Byte) ++ (0x41 : Byte) ++ (0x52 : Byte) ++ (0x4D : Byte)
      ∧ running.port.cmdPart[0] = none ∧ (0x2F : BitVec 7).toNat = 0x2E + 1 ∧ (0x30 : BitVec 7).toNat = 0x2E + 2 := by decide

theorem test_meets_RecordLayouts :
    (24 ≤ 24 ∧ 16 ≤ 16) ∧ (2 = running.own ∧ 15 ≤ 15) ∧ 24 ≠ running.own := by decide

theorem test_meets_TransactionsAndLines :
    let abandoned := setTransaction (.abandoned) running
    let s := sending (.mark aMark) running
    ([true, false, true] : List Bool).length < 8
      ∧ wholeBytes (List.replicate 16 true) = 0xFF :: [0xFF]
      ∧ (abandoned.port.transaction = .abandoned ∧ abandoned.port.running = none)
      ∧ ((0x7F : Byte).getLsbD 7 = false ∧ (0x80 : Byte).getLsbD 7 = true)
      ∧ (abandoned.serves = false ∧ running.serves = true ∧ 7 < 8 ∧ 15 = 8 * 1 + 7
        ∧ (misoBytes 0x50 [running])[1]? = some 0)
      ∧ (0x08 + 2 < 0x07 + 5 ∧ wholeField 0x06 = none ∧ wholeField 0x7F = none ∧ wholeField 0x30 = some 0x2E)
      ∧ lkde running = false ∧ (s.up = true ∧ s.link.sending = some (.mark aMark) ∧ 9 < (Sending.mark aMark).bytes.length) := by
  decide +kernel

theorem test_meets_RaiseAndClearTables :
    let r (st : PointState) (active shelved : Bool) : PointRecord :=
      { PointRecord.reset with state := st, active := active, shelved := shelved }
    ((⟨.advisory, .autoReset, 0⟩ : Attributes).cls = .advisory ∧ (r .alert true false).attrs.cls ≠ .advisory
        ∧ attrs.group ≠ (r .alert true false).attrs.group)
      ∧ (r .normal true false).active = true ∧ ((r .normal false true).active = false ∧ (r .normal false true).shelved = true)
      ∧ (adopt attrs (r .ringback false false)).state = .ringback
      ∧ (adopt attrs (r .alert true false)).state = .alert ∧ (adopt attrs (r .acked true false)).state = .acked
      ∧ (adopt attrs (r .normal true false)).state = .normal ∧ attrs.cls ≠ .advisory ∧ attrs.seq = .autoReset := by decide

theorem test_meets_AcknowledgeResetAndShelveTables :
    let r (st : PointState) (active shelved : Bool) : PointRecord :=
      { PointRecord.reset with state := st, active := active, shelved := shelved }
    ((r .alert true false).state = .alert ∧ (r .returned false false).attrs.seq = .manualReset
        ∧ ({ r .returned false false with attrs := attrs } : PointRecord).attrs.seq = .autoReset)
      ∧ (r .returned false false).occurrence = 0 ∧ (r .ringback false false).state = .ringback
      ∧ (r .acked true false).state ≠ .returned ∧ (r .normal true true).shelved = true
      ∧ (r .normal true true).attrs.cls ≠ .advisory ∧ (r .normal true true).state = .normal := by decide

theorem test_meets_HistoryKeepsTheEarliestPart :
    let e : HistoryEntry := { stamp := ⟨9, 1, 1⟩, kind := .raise, station := 1 }
    let s := { running with history := ⟨.replicate 48 e, 65535⟩ }
    running.history.entries.length ≤ 47 ∧ s.history.entries.length = 48 ∧ s.history.overflow ≤ 65535 := by decide +kernel

/-- A list of 80 entries: (1, 0) first, the rest a point at rest; one more point waits unlisted. -/
def crowded (st : PointState) (cls : PointClass) : State :=
  let s := (listed st running).modifyRecord ⟨24, 15⟩ (fun r =>
    { r with attrs := ⟨cls, .manualReset, 0⟩, state := .alert, alert := some ⟨9, 2, 1⟩, unlisted := true })
  { s with list := ⟨⟨1, 0⟩ :: .replicate 79 ⟨3, 0⟩, 255, 1⟩ }

theorem test_meets_AlarmListKeepsItsPlaces :
    let r : Report := ⟨⟨1, 0⟩, .reset, ⟨9, 2, 2⟩, some 2, .applied, (listed .ringback running).record ⟨1, 0⟩, .reset⟩
    running.list.entries.length < 80
      ∧ (80 ≤ (crowded .acked .shutdown).list.entries.length
          ∧ ((crowded .acked .shutdown).record ⟨24, 15⟩).attrs.cls = .shutdown
          ∧ (crowded .acked .shutdown).victim = some ⟨1, 0⟩ ∧ pointInRange 24 15 = true)
      ∧ ((crowded .acked .alarm).record ⟨24, 15⟩).attrs.cls ≠ .shutdown ∧ (crowded .alert .shutdown).victim = none
      ∧ (r.before.state ≠ .normal ∧ r.after.state = .normal ∧ r.id ∈ (crowded .ringback .alarm).list.entries
          ∧ (crowded .ringback .alarm).list.entries.length ≤ 80)
      ∧ (listed .ringback running).list.unlistedCount = 0 ∧ 0 < (crowded .ringback .alarm).list.unlistedCount
      ∧ (crowded .ringback .alarm).admissible = some ⟨24, 15⟩
      ∧ (let leaves : Report := { r with id := ⟨24, 15⟩ }
         let s := listed .acked running
         let waits (flag : Bool) := s.modifyRecord ⟨24, 15⟩ (fun r => { r with unlisted := flag })
         leaves.id ∉ s.list.entries ∧ ((waits true).record leaves.id).unlisted = true
          ∧ ((waits false).record leaves.id).unlisted = false)
      ∧ (let stays (st : PointState) (n : Nat) : Report :=
          { r with after := { r.before with state := st, alert := some ⟨9, 1, n⟩ } }
         r.id ∈ (listed .ringback running).list.entries
          ∧ ((stays .ringback 2).before.alert ≠ (stays .ringback 2).after.alert
            ∧ (stays .ringback 2).before.state = (stays .ringback 2).after.state)
          ∧ ((stays .alert 1).before.alert = (stays .alert 1).after.alert
            ∧ (stays .alert 1).before.state ≠ (stays .alert 1).after.state ∧ (stays .alert 1).after.state ≠ .normal))
      ∧ [(⟨1, 0⟩ : PointId)].Pairwise (fun a b =>
          Stamp.earlier ((listed .acked running).alertOf b) ((listed .acked running).alertOf a) = false) := by decide +kernel

theorem test_meets_GroupsAndZonesFollowReports :
    let after : PointRecord := { PointRecord.reset with attrs := ⟨.alarm, .manualReset, 8⟩, state := .alert }
    let r : Report := ⟨⟨1, 0⟩, .raise, ⟨9, 1, 1⟩, some 1, .applied, .reset, after⟩
    let replaced : Report := { r with event := .replace }
    let held := setHolder 8 (some ⟨1, 0⟩) running
    let flagged (s : State) (n : Nat) : State := s.modifyRecord ⟨1, 0⟩ (fun r =>
      { r with firstOut := true, attrs := ⟨.alarm, .manualReset, 8⟩, alert := some ⟨9, 1, n⟩ })
    let rival := (flagged (setHolder 8 (some ⟨3, 0⟩) running) 1).modifyRecord ⟨3, 0⟩ (fun r => { r with alert := some ⟨9, 1, 2⟩ })
    (marksFirstOut r = true ∧ r.after.attrs.group = 8 ∧ running.holder 8 = none ∧ pointInRange 1 0 = true)
      ∧ (held.holder 8 = some r.id ∧ (held.record r.id).firstOut = false ∧ PointRecord.reset.attrs.group = 0)
      ∧ ((flagged held 1).record r.id).firstOut = true
      ∧ (replaced.event = .replace ∧ (firstOutRelease replaced.id (flagged running 1)).holder 8 = none
        ∧ (firstOutRelease replaced.id (flagged held 1)).holder 8 = some replaced.id)
      ∧ ((firstOutRelease replaced.id rival).holder 8 = some ⟨3, 0⟩
        ∧ Stamp.earlier (rival.alertOf ⟨1, 0⟩) (rival.alertOf ⟨3, 0⟩) = true
        ∧ Stamp.earlier ((flagged rival 3).alertOf ⟨1, 0⟩) ((flagged rival 3).alertOf ⟨3, 0⟩) = false)
      ∧ running.zoneOf 1 = none
      ∧ (running.modifyEntry 1 (fun e => { e with zone := some 8 })).zoneOf 1 = some 8 := by decide +kernel

theorem test_meets_RecordEventsAreReported :
    let s := listed .alert running
    pointInRange 24 16 = true ∧ s.own = 2 ∧ s.inView ⟨1, 0⟩ = true ∧ s.inView ⟨24, 16⟩ = false
      ∧ running.groups.demand = running.causes.length
      ∧ (applyRaise 1 attrs ⟨10, 1, 1⟩ (s.record ⟨2, 15⟩)).2 = .applied
      ∧ (applyRaise 1 attrs ⟨10, 1, 1⟩ (s.record ⟨2, 15⟩)).1.state = .alert
      ∧ (applyAckPoint 255 3 (s.record ⟨1, 0⟩)).2 = .stale ∧ (applyShelve 16 (s.record ⟨1, 16⟩)).2 = .ignored := by
  decide +kernel

/-- R156, R167, R24: station 1 raises its point 1, which is in view: its record, the RAISE entry, NEWALERT; the announced
condition follows a raise of the own point 15 alone. -/
theorem test_raise_is_reported :
    let s := listed .acked running
    let entry : HistoryEntry :=
      { stamp := ⟨10, 1, 1⟩, kind := .raise, station := 1, point := some 1, occurrence := some 1, actor := some 1,
        cls := some .alarm }
    let raised (id : PointId) : State :=
      (recordEvent id .raise ⟨10, id.owner, 1⟩ (some id.owner) (applyRaise 1 attrs ⟨10, id.owner, 1⟩) s).1
    ((raised ⟨1, 1⟩).record ⟨1, 1⟩).state = .alert ∧ (raised ⟨1, 1⟩).hasEvent .newalert = true
      ∧ (raised ⟨1, 1⟩).history.entries = [entry]
      ∧ (raised ⟨1, 1⟩).scanner = s.scanner ∧ ((raised ⟨2, 15⟩).input 15).announced = true := by decide +kernel

theorem test_meets_StepKeepsTheRanges : State.reset.Bounded ∧ ∃ t, step State.reset = .next t :=
  ⟨bounded_reset, ⟨_, rfl⟩⟩

theorem test_meets_StepKeepsTheModes : (queued [fresh (.raise 15 1 attrs)] running).Consistent ∧ ∃ t, step running = .next t :=
  ⟨⟨by decide, fun h => absurd h (by decide), fun _ => rfl, fun _ => rfl, fun h => absurd rfl h, by decide⟩, ⟨_, rfl⟩⟩

theorem test_meets_FramesRoundTrip :
    markFits 24 ⟨24, 24, 2 ^ 40 - 1⟩ = true ∧ listFits 4 aList = true
      ∧ slotFits 24 ⟨24, 8, 2 ^ 40 - 1, true, 0xFFFF, .replicate 6 (some (.ackUpto 0xFF ⟨2 ^ 40 - 1, 24, 47⟩))⟩ = true := by
  decide +kernel

end Sys2Proof.Tests
end

section
/-! The tables of one point record (ch. 1): what each record event makes of it, one lemma for each row of the rules, and the
two statements that put them together. -/

namespace Sys2Proof.Machine

open Sys2Proof

/-! ### Shared steps of the annunciation sequence (R9 to R11) -/

theorem enterNormal_of_normal {r : PointRecord} (h : r.state = .normal) : enterNormal r = r := by
  simp [enterNormal, h]

theorem enterNormal_of_annunciated {r : PointRecord} (h : r.state ≠ .normal) :
    enterNormal r = { r with state := .normal, alert := none, firstOut := false } := by
  simp [enterNormal, h]

/-- The raise column of R9: every state but ALERT and ACKED goes to ALERT. -/
theorem raiseSequence_enters {r : PointRecord} (occurrence : Nat) (stamp : Stamp)
    (h : r.state = .normal ∨ r.state = .returned ∨ r.state = .ringback) :
    raiseSequence occurrence stamp r = { r with
      active := true, occurrence := occurrence, state := .alert, alert := some stamp, lastActor := none } := by
  rcases h with h | h | h <;> simp [raiseSequence, enterAlert, h]

theorem settleSequence_manualReset {r : PointRecord} (h : r.attrs.seq = .manualReset) :
    settleSequence r = { r with state := .ringback } := by
  simp [settleSequence, h]

theorem settleSequence_autoReset {r : PointRecord} (h : r.attrs.seq = .autoReset) (hs : r.state ≠ .normal) :
    settleSequence r = { r with state := .normal, alert := none, firstOut := false } := by
  simp [settleSequence, h, enterNormal_of_annunciated hs]

/-! ### Adoption (R4) -/

theorem adopt_eq (a : Attributes) (r : PointRecord) :
    let rests := a.cls = .advisory ∧ r.attrs.cls ≠ .advisory ∧ r.state ≠ .normal
    adopt a r = { r with
      attrs := a
      state := if rests then .normal else r.state
      alert := if rests then none else r.alert
      firstOut := if rests ∨ a.group ≠ r.attrs.group then false else r.firstOut } := by
  intro rests
  by_cases hr : rests
  · obtain ⟨hadv, hcls, hs⟩ := hr
    by_cases hg : a.group = r.attrs.group <;> simp [adopt, enterNormal, rests, hadv, hcls, hs, hg]
  · have hkeep : (if a.cls = .advisory ∧ r.attrs.cls ≠ .advisory then enterNormal { r with attrs := a }
        else { r with attrs := a }) = { r with attrs := a } := by
      split
      · rename_i hc
        obtain ⟨hadv, hcls⟩ := hc
        exact enterNormal_of_normal (Decidable.byContradiction fun hs => hr ⟨hadv, hcls, hs⟩)
      · rfl
    by_cases hg : a.group = r.attrs.group <;> simp [adopt, hkeep, hr, hg]

@[simp] theorem adopt_attrs (a : Attributes) (r : PointRecord) : (adopt a r).attrs = a := by rw [adopt_eq]
@[simp] theorem adopt_active (a : Attributes) (r : PointRecord) : (adopt a r).active = r.active := by rw [adopt_eq]
@[simp] theorem adopt_shelved (a : Attributes) (r : PointRecord) : (adopt a r).shelved = r.shelved := by rw [adopt_eq]
@[simp] theorem adopt_occurrence (a : Attributes) (r : PointRecord) : (adopt a r).occurrence = r.occurrence := by rw [adopt_eq]

/-! ### RAISE (R13) -/

/-- The occurrence of a RAISE: the one carried, or the successor where 0 is carried (R7, R13). -/
def raisedOccurrence (carried : Nat) (old : PointRecord) : Nat :=
  if carried = 0 then nextOccurrence old.occurrence else carried

theorem applyRaise_active {old : PointRecord} (o : Nat) (a : Attributes) (stamp : Stamp) (h : old.active = true) :
    applyRaise o a stamp old = (adopt a old, .duplicate) := by
  simp [applyRaise, h]

theorem applyRaise_silent {old : PointRecord} (o : Nat) (a : Attributes) (stamp : Stamp) (h : old.active = false)
    (hs : old.shelved = true ∨ a.cls = .advisory) :
    applyRaise o a stamp old =
      ({ adopt a old with active := true, occurrence := raisedOccurrence o old }, .applied) := by
  simp [applyRaise, raisedOccurrence, h, hs]

theorem applyRaise_annunciated {old : PointRecord} (o : Nat) (a : Attributes) (stamp : Stamp) (h : old.active = false)
    (hs : old.shelved = false) (hc : a.cls ≠ .advisory)
    (hst : (adopt a old).state = .normal ∨ (adopt a old).state = .returned ∨ (adopt a old).state = .ringback) :
    applyRaise o a stamp old = ({ adopt a old with
      active := true, occurrence := raisedOccurrence o old, state := .alert, alert := some stamp, lastActor := none },
      .applied) := by
  simp [applyRaise, raisedOccurrence, h, hs, hc, raiseSequence_enters _ _ hst]

/-! ### CLEAR (R14) -/

/-- A record whose condition a CLEAR ends: carried attributes, inactive, the occurrence carried or kept (R14). -/
def clearedRecord (carried : Nat) (a : Attributes) (old : PointRecord) : PointRecord :=
  { adopt a old with active := false, occurrence := if carried = 0 then old.occurrence else carried }

theorem applyClear_inactive {old : PointRecord} (o : Nat) (a : Attributes) (h : old.active = false) :
    applyClear o a old = (adopt a old, .duplicate) := by
  simp [applyClear, h]

theorem applyClear_silent {old : PointRecord} (o : Nat) (a : Attributes) (h : old.active = true)
    (hs : old.shelved = true ∨ a.cls = .advisory ∨ (adopt a old).state = .normal) :
    applyClear o a old = (clearedRecord o a old, .applied) := by
  by_cases hk : old.shelved = true ∨ a.cls = .advisory
  · simp [applyClear, clearedRecord, h, hk]
  · have hn : (adopt a old).state = .normal := by
      rcases hs with hs | hs | hs
      · exact absurd (.inl hs) hk
      · exact absurd (.inr hs) hk
      · exact hs
    simp [applyClear, clearedRecord, clearSequence, h, hk, hn]

theorem applyClear_alert {old : PointRecord} (o : Nat) (a : Attributes) (h : old.active = true)
    (hs : old.shelved = false) (hc : a.cls ≠ .advisory) (hst : (adopt a old).state = .alert) :
    applyClear o a old = ({ clearedRecord o a old with state := .returned }, .applied) := by
  simp [applyClear, clearedRecord, clearSequence, h, hs, hc, hst]

/-- An acknowledged alarm settles by its sequence when it clears (R9). -/
theorem applyClear_acked {old : PointRecord} (o : Nat) (a : Attributes) (h : old.active = true)
    (hs : old.shelved = false) (hc : a.cls ≠ .advisory) (hst : (adopt a old).state = .acked) :
    applyClear o a old = (settleSequence (clearedRecord o a old), .applied) := by
  simp [applyClear, clearedRecord, clearSequence, h, hs, hc, hst]

@[simp] theorem clearedRecord_attrs (o : Nat) (a : Attributes) (old : PointRecord) :
    (clearedRecord o a old).attrs = a := adopt_attrs a old

/-- Settles O51: adoption, the table of R13 and the table of R14, each row by its lemma. -/
theorem raiseAndClearTables : Obligations.RaiseAndClearTables := by
  refine ⟨adopt_eq, ⟨fun _ _ _ _ _ _ _ _ => rfl, fun o a stamp old => ⟨applyRaise_active o a stamp,
    applyRaise_silent o a stamp, applyRaise_annunciated o a stamp⟩⟩, fun _ _ _ _ _ _ _ _ => rfl, fun o a old =>
    ⟨applyClear_inactive o a, applyClear_silent o a, fun ha hs hc =>
      ⟨applyClear_alert o a ha hs hc, fun hst hq => ?_, fun hst hq => ?_⟩⟩⟩
  · rw [applyClear_acked o a ha hs hc hst, settleSequence_manualReset (by simpa using hq)]
    rfl
  · have hn : (clearedRecord o a old).state ≠ .normal := by
      show (adopt a old).state ≠ .normal
      simp [hst]
    rw [applyClear_acked o a ha hs hc hst, settleSequence_autoReset (by simpa using hq) hn]
    rfl

/-! ### Acknowledge, ACK-POINT and reset (R15 to R17) -/

theorem applyAcknowledge_alert {r : PointRecord} (k : Nat) (h : r.state = .alert) :
    applyAcknowledge k r = ({ r with state := .acked, lastActor := some k }, .applied) := by
  simp [applyAcknowledge, h]

theorem applyAcknowledge_returned {r : PointRecord} (k : Nat) (h : r.state = .returned) :
    applyAcknowledge k r = ({ settleSequence r with lastActor := some k }, .applied) := by
  simp [applyAcknowledge, h]

theorem applyAcknowledge_ignored {r : PointRecord} (k : Nat) (ha : r.state ≠ .alert) (hr : r.state ≠ .returned) :
    applyAcknowledge k r = (r, .ignored) := by
  cases hs : r.state <;> simp_all [applyAcknowledge]

theorem applyAckPoint_match {r : PointRecord} (o k : Nat) (h : r.state = .alert ∨ r.state = .returned)
    (ho : r.occurrence = o) : applyAckPoint o k r = applyAcknowledge k r := by
  simp [applyAckPoint, h, ho]

theorem applyAckPoint_stale {r : PointRecord} (o k : Nat)
    (h : ¬ ((r.state = .alert ∨ r.state = .returned) ∧ r.occurrence = o)) : applyAckPoint o k r = (r, .stale) := by
  simp [applyAckPoint, h]

theorem applyReset_ringback {r : PointRecord} (k : Nat) (h : r.state = .ringback) :
    applyReset k r = ({ r with state := .normal, alert := none, firstOut := false, lastActor := some k }, .applied) := by
  simp [applyReset, h, enterNormal_of_annunciated]

theorem applyReset_ignored {r : PointRecord} (k : Nat) (h : r.state ≠ .ringback) : applyReset k r = (r, .ignored) := by
  simp [applyReset, h]

/-! ### SHELVE and UNSHELVE (R18, R19) -/

/-- The link-lost point is not shelved. -/
theorem applyShelve_linkLost (r : PointRecord) : applyShelve 16 r = (r, .ignored) := rfl

theorem applyUnshelve_linkLost (stamp : Stamp) (r : PointRecord) : applyUnshelve 16 stamp r = (r, .ignored) := rfl

theorem applyShelve_shelved {p : Nat} {r : PointRecord} (hp : p ≤ 15) (h : r.shelved = true) :
    applyShelve p r = (r, .duplicate) := by
  have : p ≠ 16 := by omega
  simp [applyShelve, this, h]

theorem applyShelve_unshelved {p : Nat} {r : PointRecord} (hp : p ≤ 15) (h : r.shelved = false) :
    applyShelve p r = (enterNormal { r with shelved := true }, .applied) := by
  have : p ≠ 16 := by omega
  simp [applyShelve, this, h]

theorem applyUnshelve_unshelved {p : Nat} {r : PointRecord} (stamp : Stamp) (hp : p ≤ 15) (h : r.shelved = false) :
    applyUnshelve p stamp r = (r, .duplicate) := by
  have : p ≠ 16 := by omega
  simp [applyUnshelve, this, h]

theorem applyUnshelve_inactive {p : Nat} {r : PointRecord} (stamp : Stamp) (hp : p ≤ 15) (h : r.shelved = true)
    (ha : r.active = false) : applyUnshelve p stamp r = ({ r with shelved := false }, .applied) := by
  have : p ≠ 16 := by omega
  simp [applyUnshelve, this, h, ha]

theorem applyUnshelve_advisory {p : Nat} {r : PointRecord} (stamp : Stamp) (hp : p ≤ 15) (h : r.shelved = true)
    (ha : r.active = true) (hc : r.attrs.cls = .advisory) :
    applyUnshelve p stamp r = ({ r with shelved := false, occurrence := nextOccurrence r.occurrence }, .applied) := by
  have : p ≠ 16 := by omega
  simp [applyUnshelve, this, h, ha, hc]

/-- A shelved point that is active is annunciated as a new occurrence when it is unshelved. -/
theorem applyUnshelve_annunciated {p : Nat} {r : PointRecord} (stamp : Stamp) (hp : p ≤ 15) (h : r.shelved = true)
    (ha : r.active = true) (hc : r.attrs.cls ≠ .advisory) :
    applyUnshelve p stamp r =
      (raiseSequence (nextOccurrence r.occurrence) stamp { r with shelved := false }, .applied) := by
  have : p ≠ 16 := by omega
  simp [applyUnshelve, this, h, ha, hc]

/-- Settles O52: the tables of R15 to R19, each row by its lemma. -/
theorem acknowledgeResetAndShelveTables : Obligations.AcknowledgeResetAndShelveTables := by
  refine ⟨fun k o r => ⟨applyAcknowledge_alert k, fun h hq => ?_, fun h hq => ?_, applyAcknowledge_ignored k,
    applyAckPoint_match o k, applyAckPoint_stale o k, applyReset_ringback k, applyReset_ignored k⟩,
    fun _ _ _ _ _ _ _ => ⟨rfl, rfl⟩, fun p stamp r => ⟨?_, applyShelve_shelved, fun hp h hs => ?_, fun hp h hs => ?_,
      applyUnshelve_unshelved stamp, applyUnshelve_inactive stamp, applyUnshelve_advisory stamp,
      fun hp h ha hc hs => ?_⟩⟩
  · rw [applyAcknowledge_returned k h, settleSequence_manualReset hq]
  · rw [applyAcknowledge_returned k h, settleSequence_autoReset hq (by simp [h])]
  · rintro rfl
    exact ⟨applyShelve_linkLost r, applyUnshelve_linkLost stamp r⟩
  · simp [applyShelve_unshelved hp h, enterNormal_of_normal, hs]
  · simp [applyShelve_unshelved hp h, enterNormal_of_annunciated, hs]
  · have hraise := raiseSequence_enters (r := { r with shelved := false }) (nextOccurrence r.occurrence) stamp (.inl hs)
    rw [applyUnshelve_annunciated stamp hp h ha hc, hraise, ← ha]
    rfl

end Sys2Proof.Machine
end

section
/-! The Point Table read and written (R2): where a point stands, what a record is after a write, and what stays of a record
while blocks move its first-out and unlisted flags. -/

namespace Sys2Proof.Machine

open Sys2Proof

/-! ### Places of the tables -/

theorem pointInRange_iff {k p : Nat} : pointInRange k p = true ↔ 1 ≤ k ∧ k ≤ 24 ∧ p ≤ 16 := by
  simp [pointInRange, and_assoc]

theorem pointIndex_of_inRange {id : PointId} (h : pointInRange id.owner id.point = true) :
    pointIndex id = (id.owner - 1) * 17 + id.point := by
  simp [pointIndex, h, Config.pointsPerOwner]

theorem pointIndex_lt {id : PointId} (h : pointInRange id.owner id.point = true) : pointIndex id < 408 := by
  rw [pointIndex_of_inRange h]
  obtain ⟨_, _, _⟩ := pointInRange_iff.mp h
  omega

/-- A point of the table has a place of its own; points outside it share the place 408, which the table does not have. -/
theorem pointIndex_inj {id q : PointId} (h : pointInRange id.owner id.point = true) (e : pointIndex id = pointIndex q) :
    id = q := by
  have hq : pointInRange q.owner q.point = true := by
    refine Decidable.byContradiction fun hq => ?_
    have hplace : pointIndex q < 408 := e ▸ pointIndex_lt h
    have hnone : pointIndex q = 408 := if_neg hq
    omega
  rw [pointIndex_of_inRange h, pointIndex_of_inRange hq] at e
  obtain ⟨_, _, _⟩ := pointInRange_iff.mp h
  obtain ⟨_, _, _⟩ := pointInRange_iff.mp hq
  cases id
  cases q
  simp only [PointId.mk.injEq] at *
  omega

theorem pointAtIndex_inj {i j : Nat} (h : pointAtIndex i = pointAtIndex j) : i = j := by
  simp only [pointAtIndex, Config.pointsPerOwner, PointId.mk.injEq] at h
  omega

theorem pointAtIndex_pointIndex {id : PointId} (h : pointInRange id.owner id.point = true) :
    pointAtIndex (pointIndex id) = id := by
  rw [pointIndex_of_inRange h]
  obtain ⟨_, _, _⟩ := pointInRange_iff.mp h
  cases id
  simp only [pointAtIndex, Config.pointsPerOwner, PointId.mk.injEq] at *
  omega

theorem allPoints_nodup : allPoints.Nodup :=
  List.Pairwise.map pointAtIndex (fun _ _ hne e => hne (pointAtIndex_inj e)) List.nodup_range

theorem mem_allPoints {id : PointId} (h : pointInRange id.owner id.point = true) : id ∈ allPoints :=
  List.mem_map.mpr ⟨pointIndex id, List.mem_range.mpr (pointIndex_lt h), pointAtIndex_pointIndex h⟩

theorem placeOf_lt {k n : Nat} (h : 1 ≤ k) (hn : k ≤ n) : placeOf k n < n := by
  unfold placeOf
  split <;> omega

theorem placeOf_inj {j k n : Nat} (h : 1 ≤ k) (hn : k ≤ n) (e : placeOf j n = placeOf k n) : j = k := by
  unfold placeOf at e
  split at e <;> split at e <;> omega

/-! ### Records and directory entries read after a write -/

theorem State.record_setRecord_same {id : PointId} (r : PointRecord) (s : State)
    (h : pointInRange id.owner id.point = true) : (s.setRecord id r).record id = r :=
  tableGet_tableSet_same _ _ _ _ (pointIndex_lt h)

theorem State.record_setRecord_other {id q : PointId} (r : PointRecord) (s : State) (h : q ≠ id) :
    (s.setRecord id r).record q = s.record q := by
  by_cases hr : pointInRange id.owner id.point = true
  · exact tableGet_tableSet_other _ _ _ _ _ (fun e => h (pointIndex_inj hr e).symm)
  · have hp : ¬ pointIndex id < 408 := by simp [pointIndex, hr, Config.records]
    simp [State.record, tableGet_tableSet, hp]

/-- What holds of the new record, if the point has one, and of the old one, holds of the record read after a write. -/
theorem State.record_setRecord_of {P : PointRecord → Prop} {id q : PointId} {r : PointRecord} {s : State}
    (hs : P (s.record q)) (hr : q = id → P r) : P ((s.setRecord id r).record q) := by
  by_cases h : q = id
  · exact tableGet_tableSet_of (p := P) _ _ _ _ _ (hr h) hs
  · rwa [State.record_setRecord_other r s h]

theorem State.entry_modifyEntry_same {k : Nat} (f : DirEntry → DirEntry) (s : State) (h : 1 ≤ k) (hk : k ≤ 24) :
    (s.modifyEntry k f).entry k = f (s.entry k) :=
  tableGet_tableSet_same _ _ _ _ (placeOf_lt h hk)

theorem State.record_of_points {s t : State} (h : t.points = s.points) (q : PointId) : t.record q = s.record q := by
  simp only [State.record, h]

theorem State.entry_of_directory {s t : State} (h : t.directory = s.directory) (k : Nat) : t.entry k = s.entry k := by
  simp only [State.entry, h]

@[simp] theorem State.record_setEvent (s : State) (e : Event) (q : PointId) : (setEvent e s).record q = s.record q := rfl
@[simp] theorem State.record_recordHistory (s : State) (e : HistoryEntry) (q : PointId) :
    (recordHistory e s).record q = s.record q := by rw [recordHistory_eq]; rfl

/-! ### Event flags -/

theorem Event.bit_lt (e : Event) : e.bit < 12 := by cases e <;> decide

/-- The flags listed by their bits. -/
theorem Event.at_bit (e : Event) :
    [Event.cmddone, .newalert, .listchg, .stalost, .stajoin, .linkchg, .resync, .frameerr, .qfull, .histovf, .lockref,
      .cfgflt][e.bit]? = some e := by
  cases e <;> rfl

theorem Event.bit_inj {e e' : Event} (h : e.bit = e'.bit) : e = e' :=
  Option.some.inj (e.at_bit.symm.trans (h ▸ e'.at_bit))

/-- Setting a flag leaves every other flag as it is (R167). -/
theorem hasEvent_setEvent (e e' : Event) (s : State) :
    (setEvent e' s).hasEvent e = (s.hasEvent e || decide (e = e')) := by
  have hbit : ((1 : BitVec 12) <<< e'.bit).getLsbD e.bit = decide (e = e') := by
    have he := e.bit_lt
    by_cases h : e = e'
    · subst h
      simp [he]
    · have hne : e.bit ≠ e'.bit := fun hb => h (Event.bit_inj hb)
      simp [h, he]
      omega
  simp only [setEvent, State.hasEvent, State.mapPort_port, BitVec.getLsbD_or, hbit]

/-! ### A record apart from its first-out and unlisted flags -/

/-- A record without the two flags that the Group and Zone Unit and the Alarm List keep in it (R28, R46). -/
def PointRecord.bare (r : PointRecord) : PointRecord := { r with firstOut := false, unlisted := false }

theorem PointRecord.bare_eq_iff {r q : PointRecord} :
    r.bare = q.bare ↔ r = { q with firstOut := r.firstOut, unlisted := r.unlisted } := by
  cases r
  cases q
  simp [PointRecord.bare]

/-- What a function reads that looks at neither flag. -/
theorem PointRecord.eq_of_bare {β : Type} (f : PointRecord → β) {r q : PointRecord} (h : r.bare = q.bare)
    (hf : ∀ r : PointRecord, f r.bare = f r := by intro r; rfl) : f r = f q := by
  rw [← hf r, h, hf q]

end Sys2Proof.Machine
end

section
/-! One record event and its report (R12), block by block: the Alarm List moves unlisted flags, the Group and Zone Unit
first-out flags, and nothing else of a record changes beside the event's own change. -/

namespace Sys2Proof.Machine

open Sys2Proof

/-! ### The History Log and the Alarm List (R29 to R35, R155 to R157) -/

/-- Of the records only unlisted flags differ; the groups, the Scanner and NEWALERT are as before. -/
structure UnlistedOnly (s t : State) : Prop where
  record : ∀ q, t.record q = { s.record q with unlisted := (t.record q).unlisted }
  groups : t.groups = s.groups
  scanner : t.scanner = s.scanner
  newalert : t.hasEvent .newalert = s.hasEvent .newalert

theorem UnlistedOnly.refl (s : State) : UnlistedOnly s s := ⟨fun _ => rfl, rfl, rfl, rfl⟩

theorem UnlistedOnly.trans {s t u : State} (h : UnlistedOnly s t) (k : UnlistedOnly t u) : UnlistedOnly s u :=
  ⟨fun q => (k.record q).trans (by rw [h.record q]), k.groups.trans h.groups, k.scanner.trans h.scanner,
    k.newalert.trans h.newalert⟩

theorem UnlistedOnly.bare {s t : State} (h : UnlistedOnly s t) (q : PointId) : (t.record q).bare = (s.record q).bare := by
  rw [h.record q]
  rfl

theorem unlisted_setEvent {e : Event} (he : Event.newalert ≠ e) (s : State) : UnlistedOnly s (setEvent e s) :=
  ⟨fun _ => rfl, rfl, rfl, by simp [hasEvent_setEvent, he]⟩

theorem unlisted_mapList (f : AlarmList → AlarmList) (s : State) : UnlistedOnly s (s.mapList f) :=
  ⟨fun _ => rfl, rfl, rfl, rfl⟩

theorem unlisted_modifyRecord (id : PointId) (b : Bool) (s : State) :
    UnlistedOnly s (s.modifyRecord id (fun r => { r with unlisted := b })) :=
  ⟨fun q => State.record_setRecord_of (P := fun r => r = { s.record q with unlisted := r.unlisted }) rfl
    (fun h => by rw [h]), rfl, rfl, rfl⟩

theorem unlisted_recordHistory (e : HistoryEntry) (s : State) : UnlistedOnly s (recordHistory e s) := by
  have hlog : UnlistedOnly s { s with history := s.history.append e } := ⟨fun _ => rfl, rfl, rfl, rfl⟩
  unfold recordHistory
  dsimp only
  split
  · exact hlog
  · exact hlog.trans (unlisted_setEvent (by decide) _)

theorem unlisted_bumpGeneration (s : State) : UnlistedOnly s (bumpGeneration s) :=
  (unlisted_mapList _ _).trans (unlisted_setEvent (by decide) _)

theorem unlisted_listInsert (id : PointId) (s : State) : UnlistedOnly s (listInsert id s) :=
  (unlisted_mapList _ _).trans (unlisted_bumpGeneration _)

theorem unlisted_listRemove (id : PointId) (s : State) : UnlistedOnly s (listRemove id s) :=
  (unlisted_mapList _ _).trans (unlisted_bumpGeneration _)

theorem unlisted_listMove (id : PointId) (s : State) : UnlistedOnly s (listMove id s) :=
  (unlisted_mapList _ _).trans (unlisted_bumpGeneration _)

theorem unlisted_setUnlisted (id : PointId) (s : State) : UnlistedOnly s (setUnlisted id s) :=
  (unlisted_modifyRecord _ _ _).trans (unlisted_mapList _ _)

theorem unlisted_clearUnlisted (id : PointId) (s : State) : UnlistedOnly s (clearUnlisted id s) := by
  unfold clearUnlisted
  split
  · exact (unlisted_modifyRecord _ _ _).trans (unlisted_mapList _ _)
  · exact .refl s

theorem unlisted_makeRoom (v id : PointId) (s : State) :
    UnlistedOnly s (listInsert id (setUnlisted v (listRemove v s))) :=
  ((unlisted_listRemove _ _).trans (unlisted_setUnlisted _ _)).trans (unlisted_listInsert _ _)

theorem unlisted_listEnter (id : PointId) (stamp : Stamp) (s : State) : UnlistedOnly s (listEnter id stamp s) := by
  have hrefuse : UnlistedOnly s (refuse id stamp s) := (unlisted_setUnlisted _ _).trans (unlisted_recordHistory _ _)
  unfold listEnter
  split
  · exact unlisted_listInsert _ _
  · split
    · split
      · exact (unlisted_makeRoom _ _ _).trans (unlisted_recordHistory _ _)
      · exact hrefuse
    · exact hrefuse

theorem unlisted_listAdmit (s : State) : UnlistedOnly s (listAdmit s) := by
  unfold listAdmit
  split
  · split
    · exact (unlisted_clearUnlisted _ _).trans (unlisted_listInsert _ _)
    · exact .refl s
  · exact .refl s

theorem unlisted_listFollow (r : Report) (s : State) : UnlistedOnly s (listFollow r s) := by
  have hmove : UnlistedOnly s (if r.before.alert ≠ r.after.alert then listMove r.id s else s) := by
    split
    · exact unlisted_listMove _ _
    · exact .refl s
  unfold listFollow
  dsimp only
  split
  · split
    · exact .refl s
    · exact unlisted_listEnter _ _ _
  · split
    · split
      · exact (unlisted_listRemove _ _).trans (unlisted_listAdmit _)
      · exact unlisted_clearUnlisted _ _
    · split
      · split
        · exact hmove.trans (unlisted_bumpGeneration _)
        · exact hmove
      · exact .refl s

theorem unlisted_historyFollow (r : Report) (s : State) : UnlistedOnly s (historyFollow r s) := by
  have hpoint : UnlistedOnly s (match pointEntry r with
      | some e => if s.inView r.id then recordHistory e s else s
      | none => s) := by
    split
    · split
      · exact unlisted_recordHistory _ _
      · exact .refl s
    · exact .refl s
  unfold historyFollow
  dsimp only
  split
  · exact hpoint.trans (unlisted_recordHistory _ _)
  · exact hpoint

/-! ### The log after a report -/

/-- The OVERFLOW entry of a point that lost its place in the Alarm List (R157). -/
def overflowEntry (stamp : Stamp) (q : PointId) (r : PointRecord) : HistoryEntry :=
  { stamp := stamp, kind := .overflow, station := q.owner, point := some q.point, occurrence := some r.occurrence,
    cls := some r.attrs.cls }

theorem overflowEntry_of_bare {r r' : PointRecord} (stamp : Stamp) (q : PointId) (h : r.bare = r'.bare) :
    overflowEntry stamp q r = overflowEntry stamp q r' := by
  have hocc : r.occurrence = r'.occurrence := PointRecord.eq_of_bare (·.occurrence) h
  have hattrs : r.attrs = r'.attrs := PointRecord.eq_of_bare (·.attrs) h
  simp only [overflowEntry, hocc, hattrs]

/-- The log is as it was, or one OVERFLOW entry longer. -/
def AtMostOverflow (stamp : Stamp) (s t : State) : Prop :=
  t.history = s.history ∨ ∃ q, t.history = s.history.append (overflowEntry stamp q (s.record q))

theorem recordHistory_history (e : HistoryEntry) (s : State) : (recordHistory e s).history = s.history.append e := by
  rw [recordHistory_eq]

@[simp] theorem bumpGeneration_history (s : State) : (bumpGeneration s).history = s.history := rfl
@[simp] theorem listInsert_history (id : PointId) (s : State) : (listInsert id s).history = s.history := rfl
@[simp] theorem listRemove_history (id : PointId) (s : State) : (listRemove id s).history = s.history := rfl
@[simp] theorem listMove_history (id : PointId) (s : State) : (listMove id s).history = s.history := rfl
@[simp] theorem setUnlisted_history (id : PointId) (s : State) : (setUnlisted id s).history = s.history := rfl

@[simp] theorem clearUnlisted_history (id : PointId) (s : State) : (clearUnlisted id s).history = s.history := by
  unfold clearUnlisted
  split <;> rfl

@[simp] theorem listAdmit_history (s : State) : (listAdmit s).history = s.history := by
  unfold listAdmit
  split
  · split <;> simp
  · rfl

theorem recordOverflow_history (id : PointId) (stamp : Stamp) (s : State) :
    (recordOverflow id stamp s).history = s.history.append (overflowEntry stamp id (s.record id)) :=
  recordHistory_history _ s

theorem atMostOverflow_evict (v id : PointId) (stamp : Stamp) (s : State) :
    AtMostOverflow stamp s (evict v id stamp s) := by
  refine .inr ⟨v, ?_⟩
  rw [evict, recordOverflow_history, overflowEntry_of_bare stamp v ((unlisted_makeRoom v id s).bare v)]
  simp

theorem atMostOverflow_refuse (id : PointId) (stamp : Stamp) (s : State) :
    AtMostOverflow stamp s (refuse id stamp s) := by
  refine .inr ⟨id, ?_⟩
  rw [refuse, recordOverflow_history, overflowEntry_of_bare stamp id ((unlisted_setUnlisted id s).bare id)]
  simp

theorem atMostOverflow_listEnter (id : PointId) (stamp : Stamp) (s : State) :
    AtMostOverflow stamp s (listEnter id stamp s) := by
  unfold listEnter
  split
  · exact .inl rfl
  · split
    · split
      · exact atMostOverflow_evict _ _ _ _
      · exact atMostOverflow_refuse _ _ _
    · exact atMostOverflow_refuse _ _ _

/-- Of the Alarm List only the entry of a point into a full list is logged (R31, R32). -/
theorem atMostOverflow_listFollow (r : Report) (s : State) : AtMostOverflow r.stamp s (listFollow r s) := by
  unfold listFollow
  dsimp only
  split
  · split
    · exact .inl rfl
    · exact atMostOverflow_listEnter _ _ _
  · left
    split
    · split <;> simp
    · split
      · split <;> split <;> simp
      · rfl

/-- A report that is not STALE: its point entry is appended when the point is in view (R156). -/
theorem historyFollow_point {r : Report} {e : HistoryEntry} (s : State) (hp : pointEntry r = some e)
    (hs : staleEntry r = none) :
    (historyFollow r s).history = if s.inView r.id then s.history.append e else s.history := by
  simp only [historyFollow, hp, hs]
  split
  · exact recordHistory_history e s
  · rfl

/-- A stale ACK-POINT: its STALE-ACK entry is appended in any view (R157). -/
theorem historyFollow_stale {r : Report} {e : HistoryEntry} (s : State) (hp : pointEntry r = none)
    (hs : staleEntry r = some e) : (historyFollow r s).history = s.history.append e := by
  simp only [historyFollow, hp, hs]
  exact recordHistory_history e s

theorem historyFollow_silent {r : Report} (s : State) (hp : pointEntry r = none) (hs : staleEntry r = none) :
    historyFollow r s = s := by
  simp only [historyFollow, hp, hs]

/-! ### The Group and Zone Unit (R46 to R48, R51, R55) -/

/-- Of the records only first-out flags differ; the log, the Scanner and the port are as before. -/
structure FirstOutOnly (s t : State) : Prop where
  record : ∀ q, t.record q = { s.record q with firstOut := (t.record q).firstOut }
  history : t.history = s.history
  scanner : t.scanner = s.scanner
  port : t.port = s.port

theorem FirstOutOnly.refl (s : State) : FirstOutOnly s s := ⟨fun _ => rfl, rfl, rfl, rfl⟩

theorem FirstOutOnly.trans {s t u : State} (h : FirstOutOnly s t) (k : FirstOutOnly t u) : FirstOutOnly s u :=
  ⟨fun q => (k.record q).trans (by rw [h.record q]), k.history.trans h.history, k.scanner.trans h.scanner,
    k.port.trans h.port⟩

theorem FirstOutOnly.bare {s t : State} (h : FirstOutOnly s t) (q : PointId) : (t.record q).bare = (s.record q).bare := by
  rw [h.record q]
  rfl

theorem firstOutOnly_mapGroups (f : GroupUnit → GroupUnit) (s : State) : FirstOutOnly s (s.mapGroups f) :=
  ⟨fun _ => rfl, rfl, rfl, rfl⟩

theorem firstOutOnly_setFirstOut (id : PointId) (b : Bool) (s : State) : FirstOutOnly s (setFirstOut id b s) :=
  ⟨fun q => State.record_setRecord_of (P := fun r => r = { s.record q with firstOut := r.firstOut }) rfl
    (fun h => by rw [h]), rfl, rfl, rfl⟩

theorem firstOutOnly_setHolder (g : Nat) (h : Option PointId) (s : State) : FirstOutOnly s (setHolder g h s) :=
  firstOutOnly_mapGroups _ s

theorem firstOutOnly_firstOutMark (r : Report) (s : State) : FirstOutOnly s (firstOutMark r s) := by
  unfold firstOutMark
  dsimp only
  split
  · exact (firstOutOnly_setFirstOut _ _ _).trans (firstOutOnly_setHolder _ _ _)
  · exact .refl s

theorem firstOutOnly_releaseGroup (id : PointId) (s : State) (g : Nat) : FirstOutOnly s (releaseGroup id s g) := by
  unfold releaseGroup
  split
  · exact firstOutOnly_setHolder _ _ _
  · exact .refl s

theorem firstOutOnly_firstOutRelease (id : PointId) (s : State) : FirstOutOnly s (firstOutRelease id s) :=
  foldl_keeps (P := FirstOutOnly s) _ (fun t g h => h.trans (firstOutOnly_releaseGroup id t g)) _ s (.refl s)

theorem firstOutOnly_firstOutClaim (id : PointId) (s : State) : FirstOutOnly s (firstOutClaim id s) := by
  unfold firstOutClaim
  dsimp only
  split
  · exact firstOutOnly_setHolder _ _ _
  · split
    · exact .refl s
    · split
      · exact (firstOutOnly_setFirstOut _ _ _).trans (firstOutOnly_setHolder _ _ _)
      · exact firstOutOnly_setFirstOut _ _ _

theorem firstOutOnly_firstOutReplace (r : Report) (s : State) : FirstOutOnly s (firstOutReplace r s) := by
  unfold firstOutReplace
  split
  · exact (firstOutOnly_firstOutRelease _ _).trans (firstOutOnly_firstOutClaim _ _)
  · exact .refl s

theorem firstOutOnly_zoneFollow (r : Report) (s : State) : FirstOutOnly s (zoneFollow r s) := by
  unfold zoneFollow
  split
  · exact .refl s
  · exact firstOutOnly_mapGroups _ _

theorem firstOutOnly_demandFollow (r : Report) (s : State) : FirstOutOnly s (demandFollow r s) := by
  unfold demandFollow
  dsimp only
  split
  · exact .refl s
  · exact firstOutOnly_mapGroups _ _

theorem firstOutOnly_groupsFollow (r : Report) (s : State) : FirstOutOnly s (groupsFollow r s) :=
  ((((firstOutOnly_zoneFollow r s).trans (firstOutOnly_demandFollow _ _)).trans (firstOutOnly_firstOutMark _ _)).trans
    (firstOutOnly_firstOutReplace _ _)).trans (firstOutOnly_firstOutRelease _ _)

/-! ### The demand count (R54, R55) -/

theorem releaseGroup_demand (id : PointId) (s : State) (g : Nat) :
    (releaseGroup id s g).groups.demand = s.groups.demand := by
  unfold releaseGroup
  split <;> rfl

theorem firstOutRelease_demand (id : PointId) (s : State) : (firstOutRelease id s).groups.demand = s.groups.demand := by
  unfold firstOutRelease
  generalize [1, 2, 3, 4, 5, 6, 7, 8] = gs
  exact foldl_keeps (P := fun t => t.groups.demand = s.groups.demand) (releaseGroup id)
    (fun t g h => (releaseGroup_demand id t g).trans h) gs s rfl

theorem firstOutClaim_demand (id : PointId) (s : State) : (firstOutClaim id s).groups.demand = s.groups.demand := by
  unfold firstOutClaim
  dsimp only
  split
  · rfl
  · split
    · rfl
    · split <;> rfl

theorem firstOutReplace_demand (r : Report) (s : State) : (firstOutReplace r s).groups.demand = s.groups.demand := by
  unfold firstOutReplace
  split
  · exact (firstOutClaim_demand _ _).trans (firstOutRelease_demand _ _)
  · rfl

theorem firstOutMark_demand (r : Report) (s : State) : (firstOutMark r s).groups.demand = s.groups.demand := by
  unfold firstOutMark
  dsimp only
  split <;> rfl

theorem zoneFollow_demand (r : Report) (s : State) : (zoneFollow r s).groups.demand = s.groups.demand := by
  unfold zoneFollow
  split <;> rfl

theorem adjust_same (b : Bool) (n : Nat) : adjust b b n = n := by cases b <;> rfl

theorem demandFollow_demand (r : Report) (s : State) :
    (demandFollow r s).groups.demand =
      adjust (tripCause s (s.zoneOf r.id.owner) r.id r.before) (tripCause s (s.zoneOf r.id.owner) r.id r.after)
        s.groups.demand := by
  unfold demandFollow
  dsimp only
  split
  · rename_i h
    rw [h, adjust_same]
  · rfl

/-- Whether a record is a trip cause rests on the configuration and on the record apart from its two flags (R54). -/
theorem tripCause_congr {s t : State} {r r' : PointRecord} (hl : t.loader = s.loader) (hr : r.bare = r'.bare)
    (zone : Option Nat) (id : PointId) : tripCause t zone id r = tripCause s zone id r' := by
  have hattrs : r.attrs = r'.attrs := PointRecord.eq_of_bare (·.attrs) hr
  have hactive : r.active = r'.active := PointRecord.eq_of_bare (·.active) hr
  have hshelved : r.shelved = r'.shelved := PointRecord.eq_of_bare (·.shelved) hr
  simp only [tripCause, State.tripMask, State.promote, hl, hattrs, hactive, hshelved]

theorem State.zoneOf_of_directory {s t : State} (h : t.directory = s.directory) (k : Nat) : t.zoneOf k = s.zoneOf k := by
  simp only [State.zoneOf, State.entry_of_directory h]

theorem RecordsOnly.zoneOf {s t : State} (h : RecordsOnly s t) (k : Nat) : t.zoneOf k = s.zoneOf k :=
  State.zoneOf_of_directory h.directory k

theorem RecordsOnly.inView {s t : State} (h : RecordsOnly s t) (id : PointId) : t.inView id = s.inView id := by
  simp only [State.inView, State.viewMask, h.loader, h.zoneOf]

theorem RecordsOnly.own {s t : State} (h : RecordsOnly s t) : t.own = s.own := by simp only [State.own, h.loader]

theorem groupsFollow_demand (r : Report) (s : State) :
    (groupsFollow r s).groups.demand =
      adjust (tripCause s (s.zoneOf r.id.owner) r.id r.before) (tripCause s (s.zoneOf r.id.owner) r.id r.after)
        s.groups.demand := by
  have hz := records_zoneFollow r s
  rw [groupsFollow, firstOutRelease_demand, firstOutReplace_demand, firstOutMark_demand, demandFollow_demand,
    zoneFollow_demand, hz.zoneOf, tripCause_congr hz.loader rfl, tripCause_congr hz.loader rfl]

/-! ### The whole report -/

@[simp] theorem newAlertFollow_record (r : Report) (s : State) (q : PointId) :
    (newAlertFollow r s).record q = s.record q := by
  unfold newAlertFollow
  split <;> rfl
@[simp] theorem newAlertFollow_history (r : Report) (s : State) : (newAlertFollow r s).history = s.history := by
  unfold newAlertFollow
  split <;> rfl
@[simp] theorem newAlertFollow_groups (r : Report) (s : State) : (newAlertFollow r s).groups = s.groups := by
  unfold newAlertFollow
  split <;> rfl
@[simp] theorem newAlertFollow_scanner (r : Report) (s : State) : (newAlertFollow r s).scanner = s.scanner := by
  unfold newAlertFollow
  split <;> rfl

@[simp] theorem announceFollow_record (r : Report) (s : State) (q : PointId) :
    (announceFollow r s).record q = s.record q := by
  unfold announceFollow
  split <;> rfl
@[simp] theorem announceFollow_history (r : Report) (s : State) : (announceFollow r s).history = s.history := by
  unfold announceFollow
  split <;> rfl
@[simp] theorem announceFollow_groups (r : Report) (s : State) : (announceFollow r s).groups = s.groups := by
  unfold announceFollow
  split <;> rfl
@[simp] theorem announceFollow_hasEvent (r : Report) (s : State) (e : Event) :
    (announceFollow r s).hasEvent e = s.hasEvent e := by
  unfold announceFollow
  split <;> rfl

theorem newAlertFollow_newalert (r : Report) (s : State) :
    (newAlertFollow r s).hasEvent .newalert =
      (s.hasEvent .newalert || (r.before.state ≠ .alert && r.after.state = .alert && s.inView r.id)) := by
  unfold newAlertFollow
  split
  · rename_i h
    simp [hasEvent_setEvent, h]
  · rename_i h
    have hfalse : (r.before.state ≠ .alert && r.after.state = .alert && s.inView r.id) = false := by
      simpa using h
    rw [hfalse, Bool.or_false]

/-- The log and the Alarm List before the Group and Zone Unit acts. -/
theorem unlisted_untilList (r : Report) (s : State) : UnlistedOnly s (listFollow r (historyFollow r s)) :=
  (unlisted_historyFollow r s).trans (unlisted_listFollow r _)

theorem records_untilList (r : Report) (s : State) : RecordsOnly s (listFollow r (historyFollow r s)) :=
  (records_historyFollow r s).trans (records_listFollow r _)

theorem records_untilGroups (r : Report) (s : State) :
    RecordsOnly s (groupsFollow r (listFollow r (historyFollow r s))) :=
  (records_untilList r s).trans (records_groupsFollow r _)

theorem deliver_bare (r : Report) (s : State) (q : PointId) : ((deliver r s).record q).bare = (s.record q).bare := by
  rw [deliver, announceFollow_record, newAlertFollow_record, (firstOutOnly_groupsFollow r _).bare,
    (unlisted_untilList r s).bare]

theorem deliver_history (r : Report) (s : State) :
    (deliver r s).history = (listFollow r (historyFollow r s)).history := by
  rw [deliver, announceFollow_history, newAlertFollow_history, (firstOutOnly_groupsFollow r _).history]

/-- NEWALERT is set by a report whose point enters ALERT in view, and by nothing else of a report (R167). -/
theorem deliver_newalert (r : Report) (s : State) :
    (deliver r s).hasEvent .newalert =
      (s.hasEvent .newalert || (r.before.state ≠ .alert && r.after.state = .alert && s.inView r.id)) := by
  have hsame : (groupsFollow r (listFollow r (historyFollow r s))).hasEvent .newalert = s.hasEvent .newalert := by
    rw [← (unlisted_untilList r s).newalert, State.hasEvent, (firstOutOnly_groupsFollow r _).port, State.hasEvent]
  rw [deliver, announceFollow_hasEvent, newAlertFollow_newalert, hsame, (records_untilGroups r s).inView]

/-- The Scanner follows a report as if no other block acted on it (R142). -/
theorem deliver_scanner (r : Report) (s : State) : (deliver r s).scanner = (announceFollow r s).scanner := by
  have hscanner : (newAlertFollow r (groupsFollow r (listFollow r (historyFollow r s)))).scanner = s.scanner := by
    rw [newAlertFollow_scanner, (firstOutOnly_groupsFollow r _).scanner, (unlisted_untilList r s).scanner]
  rw [deliver]
  unfold announceFollow
  rw [((records_untilGroups r s).trans (records_newAlertFollow r _)).own]
  split
  · simp only [State.modifyInput_scanner, State.input, hscanner]
  · exact hscanner

theorem deliver_demand (r : Report) (s : State) :
    (deliver r s).groups.demand =
      adjust (tripCause s (s.zoneOf r.id.owner) r.id r.before) (tripCause s (s.zoneOf r.id.owner) r.id r.after)
        s.groups.demand := by
  have hpass := records_untilList r s
  rw [deliver, announceFollow_groups, newAlertFollow_groups, groupsFollow_demand, hpass.zoneOf,
    tripCause_congr hpass.loader rfl, tripCause_congr hpass.loader rfl, (unlisted_untilList r s).groups]

end Sys2Proof.Machine
end

section
/-! What a record event leaves behind (R12, R24, R54, R142, R156, R157, R167): the record at its place, the log, NEWALERT,
the announced condition and the demand count. -/

namespace Sys2Proof.Machine

open Sys2Proof

/-! ### The trip causes of the table (R54) -/

/-- A count over a list without repetition when the answer for one of its elements alone changes. -/
theorem countP_adjust {α : Type} [DecidableEq α] {p p' : α → Bool} {l : List α} {a : α} (hn : l.Nodup) (ha : a ∈ l)
    (h : ∀ x, x ≠ a → p' x = p x) : l.countP p' = adjust (p a) (p' a) (l.countP p) := by
  have hperm := List.perm_cons_erase ha
  have hrest : (l.erase a).countP p' = (l.erase a).countP p :=
    List.countP_congr fun x hx => by rw [h x (fun e => hn.not_mem_erase (e ▸ hx))]
  rw [hperm.countP_eq, hperm.countP_eq, List.countP_cons, List.countP_cons, hrest]
  cases hb : p a <;> cases ha : p' a <;> simp [adjust]

theorem causes_length (s : State) :
    s.causes.length = allPoints.countP (fun id => tripCause s (s.zoneOf id.owner) id (s.record id)) :=
  List.countP_eq_length_filter.symm

/-- The causes rest on the configuration, the directory zones and the records apart from their two flags. -/
theorem causes_congr {s t : State} (h : RecordsOnly s t) (hr : ∀ q, (t.record q).bare = (s.record q).bare) :
    t.causes = s.causes :=
  List.filter_congr fun q _ => by rw [h.zoneOf, tripCause_congr h.loader (hr q)]

theorem causes_setRecord {id : PointId} (r : PointRecord) (s : State) (h : pointInRange id.owner id.point = true) :
    (s.setRecord id r).causes.length =
      adjust (tripCause s (s.zoneOf id.owner) id (s.record id)) (tripCause s (s.zoneOf id.owner) id r)
        s.causes.length := by
  rw [causes_length, causes_length, countP_adjust (a := id) allPoints_nodup (mem_allPoints h)
    (p := fun q => tripCause s (s.zoneOf q.owner) q (s.record q))]
  · rw [State.record_setRecord_same r s h]
    rfl
  · intro q hq
    rw [State.record_setRecord_other r s hq]
    rfl

/-! ### The report of an event -/

/-- The report that a record event makes in a state (R12). -/
def eventReport (id : PointId) (event : RecordEvent) (stamp : Stamp) (actor : Option Nat)
    (change : PointRecord → PointRecord × ReportOutcome) (s : State) : Report :=
  ⟨id, event, stamp, actor, (change (s.record id)).2, s.record id, (change (s.record id)).1⟩

/-- Beside the flags that the blocks keep in records, an event changes the record of its point only. -/
theorem recordEvent_bare (id : PointId) (event : RecordEvent) (stamp : Stamp) (actor : Option Nat)
    (change : PointRecord → PointRecord × ReportOutcome) (s : State) (q : PointId) :
    ((recordEvent id event stamp actor change s).1.record q).bare =
      ((s.setRecord id (change (s.record id)).1).record q).bare :=
  deliver_bare _ _ q

theorem recordEvent_bare_same {id : PointId} (event : RecordEvent) (stamp : Stamp) (actor : Option Nat)
    (change : PointRecord → PointRecord × ReportOutcome) (s : State) (h : pointInRange id.owner id.point = true) :
    ((recordEvent id event stamp actor change s).1.record id).bare = (change (s.record id)).1.bare := by
  rw [recordEvent_bare, State.record_setRecord_same _ s h]

theorem recordEvent_bare_other {id q : PointId} (event : RecordEvent) (stamp : Stamp) (actor : Option Nat)
    (change : PointRecord → PointRecord × ReportOutcome) (s : State) (h : q ≠ id) :
    ((recordEvent id event stamp actor change s).1.record q).bare = (s.record q).bare := by
  rw [recordEvent_bare, State.record_setRecord_other _ s h]

/-! ### The log -/

/-- The log of the second state is a given one, or one OVERFLOW entry for one of its points longer. -/
def LoggedUpToOverflow (stamp : Stamp) (t : State) (h : History) : Prop :=
  t.history = h ∨ ∃ q : PointId, t.history = h.append (overflowEntry stamp q (t.record q))

/-- The entry of the event comes first, an OVERFLOW of the Alarm List after it (R155). -/
theorem deliver_logged {r : Report} {s : State} {h : History} (hh : (historyFollow r s).history = h) :
    LoggedUpToOverflow r.stamp (deliver r s) h := by
  subst hh
  rcases atMostOverflow_listFollow r (historyFollow r s) with hsame | ⟨q, hq⟩
  · exact .inl ((deliver_history r s).trans hsame)
  · have hr : ((historyFollow r s).record q).bare = ((deliver r s).record q).bare :=
      ((unlisted_historyFollow r s).bare q).trans (deliver_bare r s q).symm
    exact .inr ⟨q, by rw [deliver_history, hq, overflowEntry_of_bare r.stamp q hr]⟩

theorem staleEntry_of_applied {r : Report} (h : r.outcome = .applied) : staleEntry r = none := by
  unfold staleEntry
  split
  · simp [h]
  · rfl

theorem pointEntry_of_not_applied {r : Report} (h : r.outcome ≠ .applied) : pointEntry r = none := by
  simp [pointEntry, h]

theorem staleEntry_of_stale {r : Report} {o : Nat} (he : r.event = .ackPoint o) (h : r.outcome = .stale) :
    staleEntry r = some
      { stamp := r.stamp, kind := .staleAck, station := r.id.owner, point := some r.id.point, occurrence := some o,
        actor := r.actor } := by
  simp [staleEntry, he, h]

theorem staleEntry_of_not_stale {r : Report} (h : ∀ o, r.event = .ackPoint o → r.outcome ≠ .stale) :
    staleEntry r = none := by
  unfold staleEntry
  split
  · rename_i o he
    simp [h o he]
  · rfl

/-- The kinds of event that R156 gives a point entry are RAISE, CLEAR, ACK-POINT, SHELVE and UNSHELVE. -/
theorem pointEntry_of_unlogged {r : Report} (ha : ∀ o, r.event ≠ .ackPoint o)
    (h : r.event ∉ [RecordEvent.raise, .clear, .shelve, .unshelve]) : pointEntry r = none := by
  cases he : r.event <;> simp_all [pointEntry]

/-- The point entry of an applied event is logged in view, and nothing is out of view. -/
theorem deliver_tells {r : Report} {e : HistoryEntry} (s : State) (hr : r.outcome = .applied)
    (he : pointEntry r = some e) :
    LoggedUpToOverflow r.stamp (deliver r s) (if s.inView r.id then s.history.append e else s.history) :=
  deliver_logged (historyFollow_point s he (staleEntry_of_applied hr))

/-! ### The announced condition (R142) -/

theorem announceFollow_announces {r : Report} {s : State} (ho : r.id.owner = s.own) (hp : r.id.point ≤ 15)
    (he : r.event ∈ [RecordEvent.raise, .clear, .initialise]) :
    announceFollow r s = s.modifyInput r.id.point (fun i => { i with announced := r.after.active }) := by
  have he' : r.event = .raise ∨ r.event = .clear ∨ r.event = .initialise := by simpa using he
  simp [announceFollow, ho, hp, he']

theorem announceFollow_other {r : Report} {s : State}
    (h : r.id.owner ≠ s.own ∨ r.id.point = 16 ∨ r.event ∉ [RecordEvent.raise, .clear, .initialise]) :
    announceFollow r s = s := by
  refine if_neg fun hc => ?_
  obtain ⟨ho, hp, he⟩ := hc
  rcases h with h | h | h
  · exact h ho
  · omega
  · exact h (by simpa using he)

/-- Settles O56: the record by `recordEvent_bare`, the log by the entry each event makes, NEWALERT, the Scanner and the
demand count by what `deliver` does to each. -/
theorem recordEventsAreReported : Obligations.RecordEventsAreReported := by
  intro s id event stamp actor change hid old new outcome t entry logged told
  let r := eventReport id event stamp actor change s
  let s1 := s.setRecord id new
  have tell : ∀ {kind cls}, outcome = .applied → pointEntry r = some (entry kind cls) → told kind cls :=
    fun hr he => deliver_tells (r := r) s1 hr he
  refine ⟨rfl, PointRecord.bare_eq_iff.mp (recordEvent_bare_same event stamp actor change s hid),
    fun q hq => PointRecord.bare_eq_iff.mp (recordEvent_bare_other event stamp actor change s hq),
    fun ho => ⟨?_, ?_, ?_, ?_, ?_⟩, fun o he ho => ?_, fun hq => ?_, deliver_newalert r s1, fun ⟨ho, hp, he⟩ => ?_,
    fun h => ?_, fun hd => ?_⟩
  · rintro rfl
    exact tell ho (if_pos ho)
  · rintro rfl
    exact tell ho (if_pos ho)
  · rintro o rfl
    exact tell ho (if_pos ho)
  · rintro rfl
    exact tell ho (if_pos ho)
  · rintro rfl
    exact tell ho (if_pos ho)
  · have hne : r.outcome ≠ .applied := fun h => nomatch h.symm.trans ho
    exact deliver_logged (historyFollow_stale s1 (pointEntry_of_not_applied hne) (staleEntry_of_stale (r := r) he ho))
  · obtain ⟨hpoint, hstale⟩ : pointEntry r = none ∧ staleEntry r = none := by
      rcases hq with ⟨hne, hst⟩ | ⟨hack, hev⟩
      · exact ⟨pointEntry_of_not_applied hne, staleEntry_of_not_stale hst⟩
      · exact ⟨pointEntry_of_unlogged hack hev, staleEntry_of_not_stale fun o he => absurd he (hack o)⟩
    exact deliver_logged ((congrArg State.history (historyFollow_silent s1 hpoint hstale)).trans rfl)
  · have hfollow : announceFollow r s1 = _ := announceFollow_announces ho hp he
    exact ((deliver_scanner r s1).trans (congrArg State.scanner hfollow)).trans rfl
  · have hfollow : announceFollow r s1 = s1 := announceFollow_other h
    exact ((deliver_scanner r s1).trans (congrArg State.scanner hfollow)).trans rfl
  · have hcauses : t.causes = s1.causes := causes_congr (records_deliver r s1) (deliver_bare r s1)
    calc t.groups.demand
      _ = adjust (tripCause s1 (s1.zoneOf id.owner) id old) (tripCause s1 (s1.zoneOf id.owner) id new) s.groups.demand :=
        deliver_demand r s1
      _ = s1.causes.length := by rw [hd, causes_setRecord new s hid]; rfl
      _ = t.causes.length := congrArg List.length hcauses.symm

end Sys2Proof.Machine
end

section
/-! What falls inside the application of a frame (log entry 36) leaves the tables alone: presses and the mailbox commands of
that kind touch the queue, the panel, the port, the log and the trip latch. -/

namespace Sys2Proof.Machine

open Sys2Proof

/-- The Point Table, the Alarm List, the first-out groups, the link, the directory, the Agreement Unit and the configuration
are as before. -/
structure TablesKept (s t : State) : Prop where
  points : t.points = s.points
  list : t.list = s.list
  holders : t.groups.holders = s.groups.holders
  link : t.link = s.link
  directory : t.directory = s.directory
  agreement : t.agreement = s.agreement
  loader : t.loader = s.loader

theorem TablesKept.refl (s : State) : TablesKept s s := ⟨rfl, rfl, rfl, rfl, rfl, rfl, rfl⟩

theorem TablesKept.trans {s t u : State} (h : TablesKept s t) (k : TablesKept t u) : TablesKept s u :=
  ⟨k.points.trans h.points, k.list.trans h.list, k.holders.trans h.holders, k.link.trans h.link,
    k.directory.trans h.directory, k.agreement.trans h.agreement, k.loader.trans h.loader⟩

theorem tables_mapPort (f : Port → Port) (s : State) : TablesKept s (s.mapPort f) := ⟨rfl, rfl, rfl, rfl, rfl, rfl, rfl⟩

theorem tables_mapPanel (f : Panel → Panel) (s : State) : TablesKept s (s.mapPanel f) := ⟨rfl, rfl, rfl, rfl, rfl, rfl, rfl⟩

theorem tables_setEvent (e : Event) (s : State) : TablesKept s (setEvent e s) := tables_mapPort _ s

theorem tables_complete (r : CommandResult) (out : List Byte) (s : State) : TablesKept s (complete r out s) :=
  ⟨rfl, rfl, rfl, rfl, rfl, rfl, rfl⟩

theorem tables_recordHistory (e : HistoryEntry) (s : State) : TablesKept s (recordHistory e s) := by
  rw [recordHistory_eq]
  exact ⟨rfl, rfl, rfl, rfl, rfl, rfl, rfl⟩

theorem tables_offer (n : Notice) (source : Source) (s : State) : TablesKept s (offer n source s).1 := by
  rcases offer_cases n source s with ⟨_, e⟩ | ⟨_, e⟩ | ⟨_, _, e⟩ <;> rw [e]
  · exact .refl s
  · exact tables_setEvent _ s
  · exact ⟨rfl, rfl, rfl, rfl, rfl, rfl, rfl⟩

theorem tables_localReset (s : State) : TablesKept s (localReset s) := by
  unfold localReset
  split
  · exact ⟨rfl, rfl, rfl, rfl, rfl, rfl, rfl⟩
  · exact .refl s

/-! ### The panel (R148, R151) -/

theorem tables_ackAction (s : State) : TablesKept s (ackAction s) := by
  unfold ackAction pressAck
  split
  · split
    · exact tables_mapPanel _ s
    · exact (tables_offer _ _ s).trans (tables_mapPanel _ _)
  · exact .refl s

theorem tables_pressReset (s : State) : TablesKept s (pressReset s) := by
  unfold pressReset
  split
  · exact tables_mapPanel _ s
  · exact (tables_offer _ _ s).trans (tables_mapPanel _ _)

theorem tables_resetAction (s : State) : TablesKept s (resetAction s) := by
  unfold resetAction
  split
  · exact (tables_localReset s).trans (tables_pressReset _)
  · exact tables_localReset s

/-! ### The mailbox (R172 to R180) -/

theorem tables_queueCommandNotice (n : Notice) (s : State) : TablesKept s (queueCommandNotice n s) := by
  unfold queueCommandNotice
  dsimp only
  split
  · exact tables_offer _ _ s
  · exact (tables_offer _ _ s).trans (tables_complete _ _ _)

theorem tables_whenRunning {f : State → State} (hf : ∀ s, TablesKept s (f s)) (s : State) :
    TablesKept s (whenRunning f s) := by
  unfold whenRunning
  split
  · exact hf s
  · exact tables_complete _ _ s

theorem tables_commandAcka (inputs : Vector Byte 16) (s : State) : TablesKept s (commandAcka inputs s) := by
  refine tables_whenRunning (fun s => ?_) s
  split
  · exact tables_queueCommandNotice _ s
  · exact tables_complete _ _ s

theorem tables_commandRsta (inputs : Vector Byte 16) (s : State) : TablesKept s (commandRsta inputs s) := by
  refine (tables_localReset s).trans (tables_whenRunning (fun s => ?_) _)
  split
  · exact tables_queueCommandNotice _ s
  · exact tables_complete _ _ s

theorem tables_commandSiln (s : State) : TablesKept s (commandSiln s) :=
  (tables_mapPanel _ s).trans (tables_complete _ _ _)

theorem tables_refuseLocked (s : State) : TablesKept s (refuseLocked s) :=
  ((tables_complete _ _ s).trans (tables_mapPort _ _)).trans (tables_recordHistory _ _)

theorem tables_commandClrh (s : State) : TablesKept s (commandClrh s) := by
  unfold commandClrh whenUnlocked
  split
  · exact ⟨rfl, rfl, rfl, rfl, rfl, rfl, rfl⟩
  · exact tables_refuseLocked s

theorem commandOf_word (code : CommandCode) : commandOf code.word = some code := by
  cases code <;> decide

/-- A command written into an idle mailbox starts; into a busy one it is an overrun (R172). -/
theorem writeCmd_word (code : CommandCode) (s : State) :
    writeCmd code.word s =
      if s.port.running.isSome then countOverrun (clearCmdPart s) else startCommand code (clearCmdPart s) := by
  have habort : code.word ≠ abortWord := by cases code <;> decide
  have hzero : code.word ≠ 0 := by cases code <;> decide
  simp only [writeCmd, habort, hzero, commandOf_word, if_false]
  rfl

theorem tables_serve {f : State → State} (after : Transaction) (hf : ∀ s, TablesKept s (f s)) (s : State) :
    TablesKept s (serve after f s) := by
  unfold serve
  split
  · exact (tables_mapPort _ s).trans (hf _)
  · exact .refl s

theorem tables_writeCmdAt1D {code : CommandCode} (h : ∀ inputs s, TablesKept s (handleCommand code inputs s)) (s : State) :
    TablesKept s (writeCmdAt1D code.word s) := by
  refine tables_serve _ (fun s => ?_) s
  have hpart : TablesKept s (clearCmdPart s) := tables_mapPort _ s
  have htake : ∀ s, TablesKept s (takeCommand code s) := fun s => tables_mapPort _ s
  rw [writeCmd_word]
  unfold startCommand
  split
  · exact hpart.trans (tables_mapPort _ _)
  · split
    · exact (hpart.trans (htake _)).trans (tables_complete _ _ _)
    · exact (hpart.trans (htake _)).trans (h _ _)

/-- An action inside a frame leaves the tables alone. -/
theorem tables_actInside (a : InsideAction) (s : State) : TablesKept s (actInside a s) := by
  cases a with
  | silencePress => exact ⟨rfl, rfl, rfl, rfl, rfl, rfl, rfl⟩
  | ackPress => exact tables_ackAction s
  | resetPress => exact tables_resetAction s
  | siln => exact tables_writeCmdAt1D (code := .siln) (fun _ s => tables_commandSiln s) s
  | acka => exact tables_writeCmdAt1D (code := .acka) tables_commandAcka s
  | rsta => exact tables_writeCmdAt1D (code := .rsta) tables_commandRsta s
  | clrh => exact tables_writeCmdAt1D (code := .clrh) (fun _ s => tables_commandClrh s) s
  | recordLoad => exact tables_serve _ (fun s => tables_mapPort _ s) s
  | eventsWrite offset value => exact tables_serve _ (fun s => tables_mapPort _ s) s

theorem tables_fallInside (inside : List Inside) (m : Moment) (s : State) : TablesKept s (fallInside inside m s) :=
  keptInside_fallInside (P := TablesKept s) (fun a _ h => h.trans (tables_actInside a _)) inside m s (.refl s)

end Sys2Proof.Machine
end

section
/-! First-out groups under record events that are no raise (R46 to R48): no flag appears, a point that holds its group keeps
it, and a replacement that carries the flag takes a group that is free or its own. -/

namespace Sys2Proof.Machine

open Sys2Proof

/-! ### Holders read after a write -/

theorem State.holder_of_holders {s t : State} (h : t.groups.holders = s.groups.holders) (g : Nat) :
    t.holder g = s.holder g := by
  simp only [State.holder, h]

theorem holder_setHolder_same {g : Nat} (h : Option PointId) (s : State) (hg : 1 ≤ g) (hg8 : g ≤ 8) :
    (setHolder g h s).holder g = h :=
  tableGet_tableSet_same _ _ _ _ (placeOf_lt hg hg8)

theorem holder_setHolder_other {g j : Nat} (h : Option PointId) (s : State) (hg : 1 ≤ g) (hg8 : g ≤ 8) (hj : j ≠ g) :
    (setHolder j h s).holder g = s.holder g :=
  tableGet_tableSet_other _ _ _ _ _ (fun e => hj (placeOf_inj hg hg8 e))

theorem holder_setHolder_apart {g j : Nat} (h : Option PointId) (s : State) (hj : 1 ≤ j) (hj8 : j ≤ 8) (hg : g ≠ j) :
    (setHolder j h s).holder g = s.holder g :=
  tableGet_tableSet_other _ _ _ _ _ (fun e => hg (placeOf_inj hj hj8 e.symm))

/-- What holds of the new holder and of the old one holds of the holder read after a write. -/
theorem holder_setHolder_of {P : Option PointId → Prop} {j g : Nat} {h : Option PointId} {s : State} (hh : P h)
    (hs : P (s.holder g)) : P ((setHolder j h s).holder g) :=
  tableGet_tableSet_of _ _ _ _ _ hh hs

/-- Only the groups 1..8 are ever held. -/
theorem holder_range {s : State} {g : Nat} {q : PointId} (h : s.holder g = some q) : 1 ≤ g ∧ g ≤ 8 := by
  refine Decidable.byContradiction fun hg => ?_
  have hplace : ¬ placeOf g 8 < 8 := by
    unfold placeOf
    split <;> omega
  simp [State.holder, tableGet, hplace] at h

@[simp] theorem setHolder_record (g : Nat) (h : Option PointId) (s : State) (q : PointId) :
    (setHolder g h s).record q = s.record q := rfl

theorem setFirstOut_record_other {id q : PointId} (b : Bool) (s : State) (h : q ≠ id) :
    (setFirstOut id b s).record q = s.record q := State.record_setRecord_other _ s h

@[simp] theorem releaseGroup_record (id : PointId) (s : State) (g : Nat) (q : PointId) :
    (releaseGroup id s g).record q = s.record q := by
  unfold releaseGroup
  split <;> rfl

@[simp] theorem firstOutRelease_record (id : PointId) (s : State) (q : PointId) :
    (firstOutRelease id s).record q = s.record q := by
  unfold firstOutRelease
  generalize [1, 2, 3, 4, 5, 6, 7, 8] = gs
  exact foldl_keeps (P := fun t => t.record q = s.record q) (releaseGroup id)
    (fun t g h => (releaseGroup_record id t g q).trans h) gs s rfl

/-! ### A point that holds its group, and a group that is open to it -/

/-- Group g is held by the point, whose record carries the flag; the point holds no other group. -/
structure Claims (g : Nat) (id : PointId) (s : State) : Prop where
  holder : s.holder g = some id
  flag : (s.record id).firstOut = true
  group : (s.record id).attrs.group = g
  sole : ∀ j, j ≠ g → s.holder j ≠ some id

/-- Group g is free or held by the point already. -/
def OpenTo (g : Nat) (id : PointId) (s : State) : Prop := s.holder g = none ∨ s.holder g = some id

variable {g : Nat} {id y : PointId} {s t : State}

/-- The claim rests on the holders and on the flag and group of the record. -/
theorem Claims.of_same (h : Claims g id s) (hh : t.groups.holders = s.groups.holders)
    (hf : (t.record id).firstOut = (s.record id).firstOut) (hb : (t.record id).bare = (s.record id).bare) :
    Claims g id t where
  holder := (State.holder_of_holders hh g).trans h.holder
  flag := hf.trans h.flag
  group := (PointRecord.eq_of_bare (·.attrs.group) hb).trans h.group
  sole j hj := by
    rw [State.holder_of_holders hh j]
    exact h.sole j hj

theorem Claims.of_unlisted (h : Claims g id s) (k : UnlistedOnly s t) : Claims g id t :=
  h.of_same (by rw [k.groups]) (by rw [k.record id]) (k.bare id)

theorem Claims.setHolder_other (h : Claims g id s) {j : Nat} {q : Option PointId} (hj : j ≠ g) (hq : q ≠ some id) :
    Claims g id (setHolder j q s) where
  holder := by
    obtain ⟨hg, hg8⟩ := holder_range h.holder
    exact (holder_setHolder_other q s hg hg8 hj).trans h.holder
  flag := h.flag
  group := h.group
  sole i hi := holder_setHolder_of (P := fun x => x ≠ some id) hq (h.sole i hi)

theorem Claims.setFirstOut_other (h : Claims g id s) (b : Bool) (hy : id ≠ y) : Claims g id (setFirstOut y b s) :=
  h.of_same rfl (by rw [setFirstOut_record_other b s hy]) (by rw [setFirstOut_record_other b s hy])

/-- The release check takes no group from a point whose claim stands, whatever point was reported. -/
theorem Claims.releaseGroup (h : Claims g id s) (y : PointId) (j : Nat) : Claims g id (releaseGroup y s j) := by
  unfold Machine.releaseGroup
  split
  · rename_i hrel
    obtain ⟨hheld, hlost⟩ := hrel
    have hj : j ≠ g := by
      rintro rfl
      have hy : y = id := Option.some.inj (hheld.symm.trans h.holder)
      subst hy
      rcases hlost with hlost | hlost
      · exact absurd h.flag (by simp [hlost])
      · exact hlost h.group
    exact h.setHolder_other hj (by simp)
  · exact h

theorem Claims.firstOutRelease (h : Claims g id s) (y : PointId) : Claims g id (firstOutRelease y s) :=
  foldl_keeps (P := Claims g id) _ (fun _ j h => h.releaseGroup y j) _ s h

/-- Another point that settles a claim on another group disturbs no claim. -/
theorem Claims.firstOutClaim (h : Claims g id s) (hy : id ≠ y) (hg : (s.record y).attrs.group ≠ g) :
    Claims g id (firstOutClaim y s) := by
  unfold Machine.firstOutClaim
  dsimp only
  split
  · exact h.setHolder_other hg (fun e => hy (Option.some.inj e).symm)
  · rename_i q hq
    split
    · exact h
    · split
      · have hqid : id ≠ q := by
          rintro rfl
          exact h.sole _ hg hq
        exact (h.setFirstOut_other false hqid).setHolder_other hg (fun e => hy (Option.some.inj e).symm)
      · exact h.setFirstOut_other false hy

theorem OpenTo.of_same (h : OpenTo g id s) (hh : t.groups.holders = s.groups.holders) : OpenTo g id t := by
  rwa [OpenTo, State.holder_of_holders hh g]

theorem OpenTo.firstOutRelease (h : OpenTo g id s) (y : PointId) : OpenTo g id (firstOutRelease y s) := by
  refine foldl_keeps (P := OpenTo g id) _ (fun s j h => ?_) _ s h
  unfold releaseGroup
  split
  · exact holder_setHolder_of (P := fun x => x = none ∨ x = some id) (.inl rfl) h
  · exact h

theorem OpenTo.firstOutClaim (h : OpenTo g id s) (hg : 1 ≤ g) (hg8 : g ≤ 8) (hy : (s.record y).attrs.group ≠ g) :
    OpenTo g id (firstOutClaim y s) := by
  have hother : ∀ t q, t.groups.holders = s.groups.holders → OpenTo g id (setHolder (s.record y).attrs.group q t) :=
    fun t q ht => by
      rw [OpenTo, holder_setHolder_other q t hg hg8 hy]
      exact h.of_same ht
  unfold Machine.firstOutClaim
  dsimp only
  split
  · exact hother s _ rfl
  · split
    · exact h
    · split
      · exact hother _ _ rfl
      · exact h.of_same rfl

/-! ### What the release check reaches -/

/-- What each step of a walk brings about for its own element, and every other step keeps, holds of each element walked. -/
theorem foldl_reaches {α : Type} {P : α → State → Prop} {f : State → α → State} {xs : List α}
    (hdo : ∀ s, ∀ x ∈ xs, P x (f s x)) (hkeep : ∀ s x y, P y s → P y (f s x)) (s : State) :
    ∀ y ∈ xs, P y (xs.foldl f s) := by
  induction xs generalizing s with
  | nil => nofun
  | cons x xs ih =>
    intro y hy
    rcases List.mem_cons.mp hy with rfl | hy
    · exact foldl_keeps (P := P y) f (fun s x h => hkeep s x y h) xs _ (hdo s y List.mem_cons_self)
    · exact ih (fun s x hx => hdo s x (List.mem_cons_of_mem _ hx)) _ y hy

/-- After the check a point holds at most the group that its record names. -/
theorem firstOutRelease_sole (id : PointId) (s : State) {j : Nat} (hj : j ≠ (s.record id).attrs.group) :
    (firstOutRelease id s).holder j ≠ some id := by
  intro hheld
  have hmem : j ∈ [1, 2, 3, 4, 5, 6, 7, 8] := by
    obtain ⟨hlow, hhigh⟩ := holder_range hheld
    simp only [List.mem_cons, List.not_mem_nil, or_false]
    omega
  have hkeep : ∀ s i j, ((s.record id).attrs.group ≠ j → s.holder j ≠ some id) →
      ((releaseGroup id s i).record id).attrs.group ≠ j → (releaseGroup id s i).holder j ≠ some id := by
    intro s i j h hne
    rw [releaseGroup_record] at hne
    unfold releaseGroup
    split
    · exact holder_setHolder_of (P := fun x => x ≠ some id) (by simp) (h hne)
    · exact h hne
  have hdo : ∀ s, ∀ j ∈ [1, 2, 3, 4, 5, 6, 7, 8], ((releaseGroup id s j).record id).attrs.group ≠ j →
      (releaseGroup id s j).holder j ≠ some id := by
    intro s j hj hne
    rw [releaseGroup_record] at hne
    have hrange : 1 ≤ j ∧ j ≤ 8 := by
      simp only [List.mem_cons, List.not_mem_nil, or_false] at hj
      omega
    unfold releaseGroup
    split
    · simp [holder_setHolder_same none s hrange.1 hrange.2]
    · rename_i h
      exact fun hheld => h ⟨hheld, .inr hne⟩
  exact foldl_reaches (P := fun j s => (s.record id).attrs.group ≠ j → s.holder j ≠ some id) hdo hkeep s j hmem
    (by rw [← firstOutRelease_record id s id] at hj; exact hj.symm) hheld

/-- A point that carries the flag of a group that is open to it has the group after settling its claim, and no other. -/
theorem claims_firstOutClaim (hf : (s.record id).firstOut = true) (hg : (s.record id).attrs.group = g) (hlow : 1 ≤ g)
    (hhigh : g ≤ 8) (ho : OpenTo g id s) : Claims g id (firstOutClaim id (firstOutRelease id s)) := by
  have hsole : ∀ j, j ≠ g → (firstOutRelease id s).holder j ≠ some id := fun j hj => firstOutRelease_sole id s (by rwa [hg])
  unfold firstOutClaim
  dsimp only
  rw [firstOutRelease_record, hg]
  rcases ho.firstOutRelease id with hfree | hown
  · rw [hfree]
    refine ⟨holder_setHolder_same _ _ hlow hhigh, by simpa using hf, by simpa using hg, fun j hj => ?_⟩
    rw [holder_setHolder_apart _ _ hlow hhigh hj]
    exact hsole j hj
  · rw [hown]
    simp only [if_true]
    exact ⟨hown, by simpa using hf, by simpa using hg, hsole⟩

/-! ### The Group and Zone Unit on a report that is no raise -/

theorem marksFirstOut_of_replace {r : Report} (h : r.event = .replace) : marksFirstOut r = false := by
  simp [marksFirstOut, h]

theorem marksFirstOut_of_ownerLostClear {r : Report} (h : r.event = .ownerLostClear) : marksFirstOut r = false := by
  simp [marksFirstOut, h]

/-- The unit's counts after a report: the zone summaries and the demand count (R51, R55). -/
def countsFollow (r : Report) (s : State) : State := demandFollow r (zoneFollow r s)

theorem groupsFollow_of_no_raise {r : Report} (s : State) (hm : marksFirstOut r = false) :
    groupsFollow r s = firstOutRelease r.id (firstOutReplace r (countsFollow r s)) := by
  have hmark : firstOutMark r (countsFollow r s) = countsFollow r s := by simp [firstOutMark, hm]
  rw [groupsFollow, ← countsFollow, hmark]

@[simp] theorem countsFollow_record (r : Report) (s : State) (q : PointId) : (countsFollow r s).record q = s.record q := by
  unfold countsFollow demandFollow zoneFollow
  dsimp only
  split <;> split <;> rfl

@[simp] theorem countsFollow_holders (r : Report) (s : State) :
    (countsFollow r s).groups.holders = s.groups.holders := by
  unfold countsFollow demandFollow zoneFollow
  dsimp only
  split <;> split <;> rfl

/-- A replacement whose record carries the flag is one of another point and of another group. -/
def LeavesGroup (r : Report) (g : Nat) (id : PointId) (s : State) : Prop :=
  r.event = .replace → (s.record r.id).firstOut = true → id ≠ r.id ∧ (s.record r.id).attrs.group ≠ g

theorem Claims.groupsFollow {r : Report} (h : Claims g id s) (hm : marksFirstOut r = false) (hr : LeavesGroup r g id s) :
    Claims g id (groupsFollow r s) := by
  have hcounts : Claims g id (countsFollow r s) := h.of_same (by simp) (by simp) (by simp)
  rw [groupsFollow_of_no_raise s hm]
  refine Claims.firstOutRelease ?_ r.id
  unfold firstOutReplace
  split
  · rename_i hrep
    obtain ⟨hid, hgr⟩ := hr hrep.1 (by simpa using hrep.2)
    exact (hcounts.firstOutRelease r.id).firstOutClaim hid (by simpa using hgr)
  · exact hcounts

theorem OpenTo.groupsFollow {r : Report} (h : OpenTo g id s) (hlow : 1 ≤ g) (hhigh : g ≤ 8)
    (hm : marksFirstOut r = false) (hr : LeavesGroup r g id s) : OpenTo g id (groupsFollow r s) := by
  have hcounts : OpenTo g id (countsFollow r s) := h.of_same (by simp)
  rw [groupsFollow_of_no_raise s hm]
  refine OpenTo.firstOutRelease ?_ r.id
  unfold firstOutReplace
  split
  · rename_i hrep
    obtain ⟨-, hgr⟩ := hr hrep.1 (by simpa using hrep.2)
    exact (hcounts.firstOutRelease r.id).firstOutClaim hlow hhigh (by simpa using hgr)
  · exact hcounts

/-- A replacement that carries the flag of a group open to its point takes the group (R48). -/
theorem claims_groupsFollow {r : Report} (he : r.event = .replace) (hf : (s.record r.id).firstOut = true)
    (hg : (s.record r.id).attrs.group = g) (hlow : 1 ≤ g) (hhigh : g ≤ 8) (ho : OpenTo g r.id s) :
    Claims g r.id (groupsFollow r s) := by
  rw [groupsFollow_of_no_raise s (marksFirstOut_of_replace he)]
  refine Claims.firstOutRelease ?_ r.id
  rw [firstOutReplace, if_pos ⟨he, by simpa using hf⟩]
  exact claims_firstOutClaim (by simpa using hf) (by simpa using hg) hlow hhigh (ho.of_same (by simp))

/-! ### No flag appears -/

/-- Every first-out flag of the second state was there in the first. -/
def FlagsFall (s t : State) : Prop := ∀ q, (t.record q).firstOut = true → (s.record q).firstOut = true

theorem FlagsFall.trans {s t u : State} (h : FlagsFall s t) (k : FlagsFall t u) : FlagsFall s u := fun q hq => h q (k q hq)

theorem FlagsFall.of_record (h : ∀ q, (t.record q).firstOut = (s.record q).firstOut) : FlagsFall s t :=
  fun q hq => (h q).symm.trans hq

theorem flagsFall_setFirstOut (y : PointId) (s : State) : FlagsFall s (setFirstOut y false s) := fun q =>
  State.record_setRecord_of (P := fun r => r.firstOut = true → (s.record q).firstOut = true) (fun h => h) (fun _ => nofun)

theorem flagsFall_firstOutClaim (y : PointId) (s : State) : FlagsFall s (firstOutClaim y s) := by
  unfold firstOutClaim
  dsimp only
  split
  · exact .of_record fun _ => rfl
  · split
    · exact .of_record fun _ => rfl
    · split
      · exact flagsFall_setFirstOut _ s
      · exact flagsFall_setFirstOut _ s

theorem flagsFall_groupsFollow {r : Report} (s : State) (hm : marksFirstOut r = false) : FlagsFall s (groupsFollow r s) := by
  have hcounts : FlagsFall s (countsFollow r s) := .of_record fun q => by simp
  have hrelease : ∀ t, FlagsFall t (firstOutRelease r.id t) := fun t => .of_record fun q => by simp
  rw [groupsFollow_of_no_raise s hm]
  refine FlagsFall.trans ?_ (hrelease _)
  unfold firstOutReplace
  split
  · exact (hcounts.trans (hrelease _)).trans (flagsFall_firstOutClaim _ _)
  · exact hcounts

/-! ### The whole report -/

theorem LeavesGroup.untilList {r : Report} (h : LeavesGroup r g id s) :
    LeavesGroup r g id (listFollow r (historyFollow r s)) := fun he hf => by
  rw [(unlisted_untilList r s).record] at hf ⊢
  exact h he hf

theorem Claims.deliver {r : Report} (h : Claims g id s) (hm : marksFirstOut r = false) (hr : LeavesGroup r g id s) :
    Claims g id (deliver r s) := by
  have hlist := unlisted_untilList r s
  exact ((h.of_unlisted hlist).groupsFollow hm hr.untilList).of_same (by simp [Machine.deliver]) (by simp [Machine.deliver])
    (by simp [Machine.deliver])

theorem OpenTo.deliver {r : Report} (h : OpenTo g id s) (hlow : 1 ≤ g) (hhigh : g ≤ 8) (hm : marksFirstOut r = false)
    (hr : LeavesGroup r g id s) : OpenTo g id (deliver r s) := by
  have hlist := unlisted_untilList r s
  exact ((h.of_same (by rw [hlist.groups])).groupsFollow hlow hhigh hm hr.untilList).of_same (by simp [Machine.deliver])

theorem claims_deliver {r : Report} (he : r.event = .replace) (hf : (s.record r.id).firstOut = true)
    (hg : (s.record r.id).attrs.group = g) (hlow : 1 ≤ g) (hhigh : g ≤ 8) (ho : OpenTo g r.id s) :
    Claims g r.id (deliver r s) := by
  have hlist := unlisted_untilList r s
  have hgroups := claims_groupsFollow (s := listFollow r (historyFollow r s)) he (by rw [hlist.record]; exact hf)
    (by rw [hlist.record]; exact hg) hlow hhigh (ho.of_same (by rw [hlist.groups]))
  exact hgroups.of_same (by simp [Machine.deliver]) (by simp [Machine.deliver]) (by simp [Machine.deliver])

theorem flagsFall_deliver {r : Report} (s : State) (hm : marksFirstOut r = false) : FlagsFall s (deliver r s) := by
  have hlist : FlagsFall s (listFollow r (historyFollow r s)) :=
    .of_record fun q => by rw [(unlisted_untilList r s).record]
  exact (hlist.trans (flagsFall_groupsFollow _ hm)).trans (.of_record fun q => by simp [Machine.deliver])

end Sys2Proof.Machine
end

section
/-! The replacements of an OWNED LIST (R25, R48, R135) and the clearing of owner-lost flags (R22, R105), each as a walk over
points. -/

namespace Sys2Proof.Machine

open Sys2Proof

/-! ### One replacement -/

/-- The entry leaves its record at rest: it is at rest itself, or it disobeys R6 or R8 (R25). -/
abbrev Rests (e : ListEntry) : Prop :=
  e.state = .normal ∨ e.shelved = true ∨ e.attrs.cls = .advisory ∨ e.occurrence = 0 ∨ e.alert = ⟨0, 0, 0⟩

/-- The replacement of the record of a list entry (R135). -/
def replaceEntry (k : Nat) (stamp : Stamp) (e : ListEntry) (s : State) : State :=
  (recordEvent ⟨k, e.point⟩ .replace stamp (some k) (applyReplace e) s).1

/-- The record after a replacement rests on the entry and on the old record apart from its two flags. -/
theorem applyReplace_bare (e : ListEntry) {r r' : PointRecord} (h : r.bare = r'.bare) :
    (applyReplace e r).1.bare = (applyReplace e r').1.bare :=
  PointRecord.eq_of_bare (fun r => (applyReplace e r).1.bare) h

theorem applyReplace_firstOut_of_rests {e : ListEntry} (r : PointRecord)
    (h : e.firstOut = false ∨ Rests e ∨ e.attrs.group = 0) : (applyReplace e r).1.firstOut = false := by
  show (if Rests e ∨ e.attrs.group = 0 then false else e.firstOut) = false
  rcases h with h | h
  · split
    · rfl
    · exact h
  · exact if_pos h

theorem applyReplace_firstOut {e : ListEntry} (r : PointRecord) (hf : e.firstOut = true) (hr : ¬ Rests e)
    (hg : 1 ≤ e.attrs.group) : (applyReplace e r).1.firstOut = true := by
  have hkeep : ¬ (Rests e ∨ e.attrs.group = 0) := by
    rintro (h | h)
    · exact hr h
    · omega
  exact (if_neg hkeep).trans hf

theorem visiblyChanged_congr {a a' b b' : PointRecord} (ha : a.bare = a'.bare) (hb : b.bare = b'.bare) :
    visiblyChanged a b = visiblyChanged a' b' := by
  have hleft : visiblyChanged a b = visiblyChanged a' b := PointRecord.eq_of_bare (visiblyChanged · b) ha
  exact hleft.trans (PointRecord.eq_of_bare (visiblyChanged a' ·) hb)

variable {k : Nat} {stamp : Stamp} {e : ListEntry} {s t : State} {g : Nat} {id : PointId} {d : During}

theorem replaceEntry_other (h : id ≠ ⟨k, e.point⟩) : ((replaceEntry k stamp e s).record id).bare = (s.record id).bare :=
  recordEvent_bare_other _ _ _ _ s h

theorem replaceEntry_same (h : pointInRange k e.point = true) :
    ((replaceEntry k stamp e s).record ⟨k, e.point⟩).bare = (applyReplace e (s.record ⟨k, e.point⟩)).1.bare :=
  recordEvent_bare_same _ _ _ _ s h

/-- A replacement whose entry makes no claim on group g. -/
def Spares (e : ListEntry) (g : Nat) : Prop := e.attrs.group ≠ g ∨ e.firstOut = false

theorem Spares.leavesGroup (h : Spares e g) (hp : pointInRange k e.point = true) (hid : id ≠ ⟨k, e.point⟩)
    {actor : Option Nat} :
    LeavesGroup (eventReport ⟨k, e.point⟩ .replace stamp actor (applyReplace e) s) g id
      (s.setRecord ⟨k, e.point⟩ (applyReplace e (s.record ⟨k, e.point⟩)).1) := by
  intro _ hf
  refine ⟨hid, ?_⟩
  simp only [eventReport, State.record_setRecord_same (id := ⟨k, e.point⟩) _ s hp] at hf ⊢
  rcases h with h | h
  · exact h
  · rw [applyReplace_firstOut_of_rests _ (.inl h)] at hf
    exact absurd hf (by simp)

theorem Claims.replaceEntry (h : Claims g id s) (hp : pointInRange k e.point = true) (hid : id ≠ ⟨k, e.point⟩)
    (he : Spares e g) : Claims g id (replaceEntry k stamp e s) := by
  have hset : Claims g id (s.setRecord ⟨k, e.point⟩ (applyReplace e (s.record ⟨k, e.point⟩)).1) := by
    have hrec := State.record_setRecord_other (applyReplace e (s.record ⟨k, e.point⟩)).1 s hid
    exact h.of_same rfl (by rw [hrec]) (by rw [hrec])
  exact hset.deliver (marksFirstOut_of_replace rfl) (he.leavesGroup hp hid)

theorem OpenTo.replaceEntry (h : OpenTo g id s) (hlow : 1 ≤ g) (hhigh : g ≤ 8) (hp : pointInRange k e.point = true)
    (hid : id ≠ ⟨k, e.point⟩) (he : Spares e g) : OpenTo g id (replaceEntry k stamp e s) := by
  have hset : OpenTo g id (s.setRecord ⟨k, e.point⟩ (applyReplace e (s.record ⟨k, e.point⟩)).1) := h
  exact hset.deliver hlow hhigh (marksFirstOut_of_replace rfl) (he.leavesGroup hp hid)

/-- An entry with the flag, not at rest, takes a group that is open to its point (R48). -/
theorem claims_replaceEntry (hp : pointInRange k e.point = true) (hf : e.firstOut = true) (hr : ¬ Rests e)
    (hlow : 1 ≤ e.attrs.group) (hhigh : e.attrs.group ≤ 8) (ho : OpenTo e.attrs.group ⟨k, e.point⟩ s) :
    Claims e.attrs.group ⟨k, e.point⟩ (replaceEntry k stamp e s) := by
  have hrec := State.record_setRecord_same (applyReplace e (s.record ⟨k, e.point⟩)).1 s (id := ⟨k, e.point⟩) hp
  refine claims_deliver (r := eventReport ⟨k, e.point⟩ .replace stamp (some k) (applyReplace e) s) rfl ?_ ?_ hlow hhigh ho
  · exact (congrArg PointRecord.firstOut hrec).trans (applyReplace_firstOut _ hf hr hlow)
  · exact congrArg (·.attrs.group) hrec

/-- A replacement gives a flag to no other point. -/
theorem replaceEntry_flag_other (h : id ≠ ⟨k, e.point⟩) (hf : ((replaceEntry k stamp e s).record id).firstOut = true) :
    (s.record id).firstOut = true := by
  have hfall := flagsFall_deliver (r := eventReport ⟨k, e.point⟩ .replace stamp (some k) (applyReplace e) s)
    (s.setRecord ⟨k, e.point⟩ (applyReplace e (s.record ⟨k, e.point⟩)).1) (marksFirstOut_of_replace rfl) id hf
  rwa [State.record_setRecord_other _ s h] at hfall

theorem replaceEntry_flag_same (hp : pointInRange k e.point = true)
    (hf : ((replaceEntry k stamp e s).record ⟨k, e.point⟩).firstOut = true) :
    (applyReplace e (s.record ⟨k, e.point⟩)).1.firstOut = true := by
  have hfall := flagsFall_deliver (r := eventReport ⟨k, e.point⟩ .replace stamp (some k) (applyReplace e) s)
    (s.setRecord ⟨k, e.point⟩ (applyReplace e (s.record ⟨k, e.point⟩)).1) (marksFirstOut_of_replace rfl) ⟨k, e.point⟩ hf
  rwa [State.record_setRecord_same _ s hp] at hfall

/-! ### What falls between two replacements -/

theorem TablesKept.record (h : TablesKept s t) (q : PointId) : t.record q = s.record q :=
  State.record_of_points h.points q

theorem TablesKept.claims (h : TablesKept s t) (k : Claims g id s) : Claims g id t :=
  k.of_same h.holders (by rw [h.record]) (by rw [h.record])

theorem TablesKept.openTo (h : TablesKept s t) (k : OpenTo g id s) : OpenTo g id t := k.of_same h.holders

/-! ### The walk -/

theorem applyReplacements_cons (d : During) (k : Nat) (stamp : Stamp) (done : Nat) (e : ListEntry) (es : List ListEntry)
    (s : State) : (applyReplacements d k stamp done (e :: es) s).1 =
      (applyReplacements d k stamp (done + 1) es (d ⟨done + 1, 0⟩ (replaceEntry k stamp e s))).1 := rfl

theorem applyReplacements_count_cons (d : During) (k : Nat) (stamp : Stamp) (done : Nat) (e : ListEntry)
    (es : List ListEntry) (s : State) : (applyReplacements d k stamp done (e :: es) s).2 =
      (applyReplacements d k stamp (done + 1) es (d ⟨done + 1, 0⟩ (replaceEntry k stamp e s))).2
        + if visiblyChanged (s.record ⟨k, e.point⟩) (applyReplace e (s.record ⟨k, e.point⟩)).1 then 1 else 0 := by
  rw [applyReplacements]
  dsimp only
  split
  · rfl
  · rfl

theorem applyReplacements_append (d : During) (k : Nat) (stamp : Stamp) (done : Nat) (xs ys : List ListEntry) (s : State) :
    (applyReplacements d k stamp done (xs ++ ys) s).1 =
      (applyReplacements d k stamp (done + xs.length) ys (applyReplacements d k stamp done xs s).1).1 := by
  induction xs generalizing done s with
  | nil => rfl
  | cons x xs ih =>
    rw [List.cons_append, applyReplacements_cons, ih, applyReplacements_cons, List.length_cons, Nat.add_right_comm,
      Nat.add_assoc]

/-- Where nothing falls at the moments of a walk, it is the walk with nothing inside. -/
theorem applyReplacements_undisturbed {done : Nat} {xs : List ListEntry}
    (h : ∀ j, done < j → j ≤ done + xs.length → ∀ s, d ⟨j, 0⟩ s = s) (s : State) :
    applyReplacements d k stamp done xs s = applyReplacements nothingInside k stamp done xs s := by
  induction xs generalizing done s with
  | nil => rfl
  | cons x xs ih =>
    have htail := @ih (done + 1) (fun j hj hlen => h j (by omega) (by rw [List.length_cons]; omega))
    have hhead := h (done + 1) (by omega) (by rw [List.length_cons]; omega)
    simp only [applyReplacements, hhead, htail, nothingInside_eq]

/-- The entries of a list are for different points of the table. -/
structure DistinctPoints (k : Nat) (es : List ListEntry) : Prop where
  nodup : (es.map (·.point)).Nodup
  range : ∀ e ∈ es, pointInRange k e.point = true

theorem DistinctPoints.head {es : List ListEntry} (h : DistinctPoints k (e :: es)) : pointInRange k e.point = true :=
  h.range e List.mem_cons_self

theorem DistinctPoints.tail {es : List ListEntry} (h : DistinctPoints k (e :: es)) : DistinctPoints k es :=
  ⟨(List.nodup_cons.mp h.nodup).2, fun x hx => h.range x (List.mem_cons_of_mem _ hx)⟩

theorem DistinctPoints.head_ne {es : List ListEntry} (h : DistinctPoints k (e :: es)) :
    ∀ x ∈ es, x.point ≠ e.point := fun x hx hp =>
  (List.nodup_cons.mp h.nodup).1 (List.mem_map.mpr ⟨x, hx, hp⟩)

theorem pointId_ne {p q : Nat} (h : p ≠ q) : (⟨k, p⟩ : PointId) ≠ ⟨k, q⟩ := fun e => h (congrArg PointId.point e)

section
variable {es : List ListEntry} (hd : ∀ m s, TablesKept s (d m s))

include hd

/-- What one replacement and what falls after it leave of the link, the directory and the Agreement Unit. -/
theorem applyReplacements_link (done : Nat) (s : State) :
    let t := (applyReplacements d k stamp done es s).1
    t.link = s.link ∧ t.directory = s.directory ∧ t.agreement = s.agreement := by
  refine applyReplacements_keeps
    (P := fun t => t.link = s.link ∧ t.directory = s.directory ∧ t.agreement = s.agreement) (fun m t h => ?_) k stamp
    (fun id a c t h => ?_) done es ⟨rfl, rfl, rfl⟩
  · obtain ⟨hlink, hdir, hagree⟩ := h
    exact ⟨(hd m t).link.trans hlink, (hd m t).directory.trans hdir, (hd m t).agreement.trans hagree⟩
  · obtain ⟨hlink, hdir, hagree⟩ := h
    have hrec := records_recordEvent id .replace stamp a c t
    exact ⟨hrec.link.trans hlink, hrec.directory.trans hdir, hrec.agreement.trans hagree⟩

/-- A point without an entry keeps its record but for the two flags. -/
theorem applyReplacements_other (done : Nat) (s : State) (h : ∀ x ∈ es, id ≠ ⟨k, x.point⟩) :
    ((applyReplacements d k stamp done es s).1.record id).bare = (s.record id).bare := by
  induction es generalizing done s with
  | nil => rfl
  | cons x xs ih =>
    rw [applyReplacements_cons, ih _ _ (fun y hy => h y (List.mem_cons_of_mem _ hy)), (hd _ _).record,
      replaceEntry_other (h x List.mem_cons_self)]

/-- A point with an entry has the record that its entry makes of the old one, but for the two flags. -/
theorem applyReplacements_bare (done : Nat) (s : State) (hes : DistinctPoints k es) (he : e ∈ es) :
    ((applyReplacements d k stamp done es s).1.record ⟨k, e.point⟩).bare =
      (applyReplace e (s.record ⟨k, e.point⟩)).1.bare := by
  induction es generalizing done s with
  | nil => exact absurd he List.not_mem_nil
  | cons x xs ih =>
    rw [applyReplacements_cons]
    rcases List.mem_cons.mp he with rfl | he
    · rw [applyReplacements_other hd _ _ (fun y hy => pointId_ne (hes.head_ne y hy).symm), (hd _ _).record,
        replaceEntry_same hes.head]
    · have hid := pointId_ne (k := k) (hes.head_ne e he)
      rw [ih _ _ hes.tail he, (hd _ _).record]
      exact applyReplace_bare e (replaceEntry_other hid)

/-- The count of a walk is that of the entries that change their record visibly. -/
theorem applyReplacements_count (done : Nat) (s : State) (hes : DistinctPoints k es) :
    (applyReplacements d k stamp done es s).2 =
      es.countP (fun e => visiblyChanged (s.record ⟨k, e.point⟩) (applyReplace e (s.record ⟨k, e.point⟩)).1) := by
  induction es generalizing done s with
  | nil => rfl
  | cons x xs ih =>
    have htail : ∀ e ∈ xs, ((d ⟨done + 1, 0⟩ (replaceEntry k stamp x s)).record ⟨k, e.point⟩).bare =
        (s.record ⟨k, e.point⟩).bare := fun e he => by
      rw [(hd _ _).record, replaceEntry_other (pointId_ne (hes.head_ne e he))]
    rw [applyReplacements_count_cons, ih _ _ hes.tail, List.countP_cons]
    congr 1
    exact List.countP_congr fun e he => by
      rw [visiblyChanged_congr (htail e he) (applyReplace_bare e (htail e he))]

/-- A point without an entry gains no flag. -/
theorem applyReplacements_flag_other (done : Nat) (s : State) (h : ∀ x ∈ es, id ≠ ⟨k, x.point⟩)
    (hf : ((applyReplacements d k stamp done es s).1.record id).firstOut = true) : (s.record id).firstOut = true := by
  induction es generalizing done s with
  | nil => exact hf
  | cons x xs ih =>
    have htail := ih _ _ (fun y hy => h y (List.mem_cons_of_mem _ hy)) hf
    rw [(hd _ _).record] at htail
    exact replaceEntry_flag_other (h x List.mem_cons_self) htail

/-- An entry without a claim leaves its record without the flag. -/
theorem applyReplacements_unclaimed (done : Nat) (s : State) (hes : DistinctPoints k es) (he : e ∈ es)
    (hc : e.firstOut = false ∨ Rests e ∨ e.attrs.group = 0) :
    ((applyReplacements d k stamp done es s).1.record ⟨k, e.point⟩).firstOut = false := by
  induction es generalizing done s with
  | nil => exact absurd he List.not_mem_nil
  | cons x xs ih =>
    rw [applyReplacements_cons]
    rcases List.mem_cons.mp he with rfl | he
    · refine Bool.eq_false_iff.mpr fun hf => ?_
      have hhead := applyReplacements_flag_other hd _ _ (fun y hy => pointId_ne (hes.head_ne y hy).symm) hf
      rw [(hd _ _).record] at hhead
      have hflag := replaceEntry_flag_same hes.head hhead
      rw [applyReplace_firstOut_of_rests _ hc] at hflag
      exact absurd hflag (by simp)
    · exact ih _ _ hes.tail he

/-- A claim outlasts the replacements of other points that spare its group. -/
theorem Claims.applyReplacements (done : Nat) {s : State} (h : Claims g id s) (hes : DistinctPoints k es)
    (hid : ∀ x ∈ es, id ≠ ⟨k, x.point⟩) (hspare : ∀ x ∈ es, Spares x g) :
    Claims g id (applyReplacements d k stamp done es s).1 := by
  induction es generalizing done s with
  | nil => exact h
  | cons x xs ih =>
    have hhead := h.replaceEntry (stamp := stamp) hes.head (hid x List.mem_cons_self) (hspare x List.mem_cons_self)
    exact ih _ ((hd _ _).claims hhead) hes.tail (fun y hy => hid y (List.mem_cons_of_mem _ hy))
      (fun y hy => hspare y (List.mem_cons_of_mem _ hy))

/-- The only claim of a list on a group that is open to its point takes the group. -/
theorem claims_applyReplacements (done : Nat) (s : State) (hes : DistinctPoints k es) (he : e ∈ es)
    (hf : e.firstOut = true) (hr : ¬ Rests e) (hlow : 1 ≤ e.attrs.group) (hhigh : e.attrs.group ≤ 8)
    (ho : OpenTo e.attrs.group ⟨k, e.point⟩ s) (hspare : ∀ x ∈ es, x.point ≠ e.point → Spares x e.attrs.group) :
    Claims e.attrs.group ⟨k, e.point⟩ (applyReplacements d k stamp done es s).1 := by
  induction es generalizing done s with
  | nil => exact absurd he List.not_mem_nil
  | cons x xs ih =>
    rcases List.mem_cons.mp he with rfl | he
    · have hhead := (hd ⟨done + 1, 0⟩ _).claims (claims_replaceEntry (stamp := stamp) hes.head hf hr hlow hhigh ho)
      exact hhead.applyReplacements hd _ hes.tail (fun y hy => pointId_ne (hes.head_ne y hy).symm)
        (fun y hy => hspare y (List.mem_cons_of_mem _ hy) (hes.head_ne y hy))
    · have hne := hes.head_ne e he
      have hhead := ho.replaceEntry (stamp := stamp) hlow hhigh hes.head (pointId_ne hne)
        (hspare x List.mem_cons_self hne.symm)
      exact ih _ _ hes.tail he ((hd _ _).openTo hhead) (fun y hy => hspare y (List.mem_cons_of_mem _ hy))

end

/-! ### Owner-lost flags (R22, R105) -/

/-- A record without the flags that other blocks keep in it and without owner-lost. -/
def PointRecord.plain (r : PointRecord) : PointRecord := { r.bare with ownerLost := false }

theorem PointRecord.plain_of_bare {r q : PointRecord} (h : r.bare = q.bare) : r.plain = q.plain :=
  PointRecord.eq_of_bare PointRecord.plain h

/-- What a function reads that looks at none of the three flags. -/
theorem PointRecord.eq_of_plain {β : Type} (f : PointRecord → β) {r q : PointRecord} (h : r.plain = q.plain)
    (hf : ∀ r : PointRecord, f r.plain = f r := by intro r; rfl) : f r = f q := by
  rw [← hf r, h, hf q]

/-- What each clearing of one owner-lost flag keeps, clearing those of an owner keeps (R22). -/
theorem ownerLost_keeps {P : State → Prop}
    (h : ∀ id s, P s → P (recordEvent id .ownerLostClear stamp none (applyOwnerLost false) s).1) (k : Nat) (hs : P s) :
    P (ownerLost false k stamp s) := by
  refine foldl_keeps (P := P) _ (fun s id hs => ?_) _ s hs
  split
  · exact hs
  · exact h id s hs

theorem ownerLost_plain (k : Nat) (q : PointId) : ((ownerLost false k stamp s).record q).plain = (s.record q).plain := by
  refine ownerLost_keeps (P := fun t => (t.record q).plain = (s.record q).plain) (fun id t h => ?_) k rfl
  rw [PointRecord.plain_of_bare (recordEvent_bare id _ _ _ _ t q)]
  exact State.record_setRecord_of (P := fun r => r.plain = (s.record q).plain) h (fun hq => by rw [← h, hq]; rfl)

theorem flagsFall_ownerLost (k : Nat) : FlagsFall s (ownerLost false k stamp s) := by
  refine ownerLost_keeps (P := FlagsFall s) (fun id t h => ?_) k (fun _ hq => hq)
  have hset : FlagsFall t (t.setRecord id (applyOwnerLost false (t.record id)).1) := fun q =>
    State.record_setRecord_of (P := fun r => r.firstOut = true → (t.record q).firstOut = true) (fun hq => hq)
      (fun hq hf => by rw [hq]; exact hf)
  exact (h.trans hset).trans (flagsFall_deliver _ (marksFirstOut_of_ownerLostClear rfl))

theorem Claims.ownerLost (h : Claims g id s) (k : Nat) : Claims g id (ownerLost false k stamp s) := by
  refine ownerLost_keeps (P := Claims g id) (fun y t h => ?_) k h
  have hrec : ((t.setRecord y (applyOwnerLost false (t.record y)).1).record id).firstOut = (t.record id).firstOut
      ∧ ((t.setRecord y (applyOwnerLost false (t.record y)).1).record id).attrs = (t.record id).attrs :=
    State.record_setRecord_of (P := fun r => r.firstOut = (t.record id).firstOut ∧ r.attrs = (t.record id).attrs)
      ⟨rfl, rfl⟩ (fun hy => by rw [hy]; exact ⟨rfl, rfl⟩)
  have hset : Claims g id (t.setRecord y (applyOwnerLost false (t.record y)).1) :=
    ⟨h.holder, hrec.1.trans h.flag, (congrArg Attributes.group hrec.2).trans h.group, h.sole⟩
  exact hset.deliver (marksFirstOut_of_ownerLostClear rfl) (fun he => nomatch he)

/-- After the clearing no field record of the owner carries owner-lost. -/
theorem ownerLost_cleared (hk : 1 ≤ k) (hk24 : k ≤ 24) {p : Nat} (hp : p ≤ 15) :
    ((ownerLost false k stamp s).record ⟨k, p⟩).ownerLost = false := by
  have hmem : (⟨k, p⟩ : PointId) ∈ pointsOf k 16 := List.mem_map.mpr ⟨p, List.mem_range.mpr (by omega), rfl⟩
  have hevent : ∀ id q t, ((recordEvent id .ownerLostClear stamp none (applyOwnerLost false) t).1.record q).ownerLost =
      ((t.setRecord id (applyOwnerLost false (t.record id)).1).record q).ownerLost :=
    fun id q t => PointRecord.eq_of_bare (·.ownerLost) (recordEvent_bare id _ _ _ _ t q)
  refine foldl_reaches (P := fun q t => (t.record q).ownerLost = false) (fun t id hid => ?_) (fun t id q h => ?_) s _ hmem
  · split
    · assumption
    · obtain ⟨j, hj, rfl⟩ := List.mem_map.mp hid
      have hrange : pointInRange k j = true := pointInRange_iff.mpr ⟨hk, hk24, by have := List.mem_range.mp hj; omega⟩
      refine (hevent ⟨k, j⟩ ⟨k, j⟩ t).trans ?_
      rw [State.record_setRecord_same _ t hrange]
      rfl
  · split
    · exact h
    · refine (hevent id q t).trans ?_
      exact State.record_setRecord_of (P := fun r => r.ownerLost = false) h (fun _ => rfl)

end Sys2Proof.Machine
end

section
/-! An OWNED LIST from its reception to the end of its application (R83, R98, R114, R134, R135). -/

namespace Sys2Proof.Machine

open Sys2Proof

/-! ### Reception -/

/-- The second state differs from the first in the Link Controller only. -/
def LinkOnly (s t : State) : Prop := t = { s with link := t.link }

theorem LinkOnly.trans {s t u : State} (h : LinkOnly s t) (k : LinkOnly t u) : LinkOnly s u :=
  Eq.trans k (by rw [h])

theorem linkOnly_mapLink (f : Link → Link) (s : State) : LinkOnly s (s.mapLink f) := rfl

/-- What the end of an OWNED LIST leaves of a state before the list is judged: the link alone differs, with its state,
current stamp, error count and the stamp of a list as before. -/
structure ListHeard (s t : State) : Prop where
  only : LinkOnly s t
  state : t.link.state = s.link.state
  current : t.link.current = s.link.current
  frameErrors : t.link.frameErrors = s.link.frameErrors
  stamp : listStamp t = listStamp s

theorem ListHeard.trans {s t u : State} (h : ListHeard s t) (k : ListHeard t u) : ListHeard s u :=
  ⟨h.only.trans k.only, k.state.trans h.state, k.current.trans h.current, k.frameErrors.trans h.frameErrors,
    k.stamp.trans h.stamp⟩

/-- A change of the timers and of what is in reception. -/
theorem listHeard_mapLink {f : Link → Link} {s : State}
    (h : f s.link = { s.link with
      reception := (f s.link).reception, quiet := (f s.link).quiet, markTimer := (f s.link).markTimer,
      silenceTimer := (f s.link).silenceTimer, slotEndTimer := (f s.link).slotEndTimer }) : ListHeard s (s.mapLink f) :=
  ⟨linkOnly_mapLink f s, by rw [State.mapLink_link, h], by rw [State.mapLink_link, h], by rw [State.mapLink_link, h], by
    unfold listStamp
    rw [State.mapLink_link, h]⟩

theorem listHeard_ensureStarted (s : State) : ListHeard s (ensureStarted s)
    ∧ (ensureStarted s).link.position = s.link.position := by
  unfold ensureStarted
  split
  · exact ⟨listHeard_mapLink rfl, rfl⟩
  · exact ⟨⟨rfl, rfl, rfl, rfl, rfl⟩, rfl⟩

/-- The mark phase that a frame other than a MARK ends leaves no confirmed cycle (R87, R88). -/
theorem listHeard_beginSlot {s : State} (h : s.link.position = .markPhase) :
    ListHeard s (beginSlot 1 (s.mapLink (fun l => { l with confirmed := false }))) := by
  refine ⟨(linkOnly_mapLink _ s).trans (linkOnly_mapLink _ _), rfl, rfl, rfl, ?_⟩
  unfold listStamp
  rw [h]
  simp only [beginSlot, State.mapLink_link, Bool.false_eq_true, if_false]
  cases s.link.cycle <;> rfl

/-- The frame's end in a slot or in the mark phase (R82, R87, R89). -/
theorem listHeard_endUnreadFrame {s : State} (h : s.link.position ≠ .unsynchronised) :
    ListHeard s (endUnreadFrame s) := by
  have hidle : ListHeard s (s.mapLink (fun l => { l with reception := .idle })) := listHeard_mapLink rfl
  unfold endUnreadFrame
  dsimp only
  split
  · exact hidle.trans (listHeard_mapLink rfl)
  · exact hidle.trans (listHeard_beginSlot ‹_›)
  · exact absurd ‹_› h

theorem exec_ownedListReceived (bytes : List Byte) (inside : List Inside) (s : State) :
    exec (.ownedListReceived bytes inside) s = whenUp s (receiveBytes (fallInside inside) bytes) := rfl

/-- A sender has an address of at least 1 (R82). -/
theorem judge_list_sender {slots : Nat} {bytes : List Byte} {f : ListFrame} (h : judge slots bytes = .list f) :
    1 ≤ f.sender := by
  unfold judge at h
  split at h
  · rename_i hvalid
    obtain ⟨-, -, hsender, -⟩ := hvalid
    split at h <;> cases h
    exact hsender
  · exact nomatch h

theorem receives_of_appliesFrames {s : State} (h : s.link.state.appliesFrames = true) : s.receives = true := by
  cases hs : s.link.state <;> simp_all [State.receives, LinkState.appliesFrames, LinkState.unconfigured]

theorem ListHeard.own {s t : State} (h : ListHeard s t) : t.own = s.own := by
  rw [h.only]
  rfl

/-- A peer's OWNED LIST reaches the Agreement Unit of a station that applies frames (R83, R98). -/
theorem receiveBytes_list {s : State} {bytes : List Byte} {f : ListFrame} (d : During)
    (happly : s.link.state.appliesFrames = true) (hsending : s.link.sending = none)
    (hjudge : judge s.slots bytes = .list f) (hpeer : f.sender ≠ s.own) (hpos : s.link.position ≠ .unsynchronised) :
    ∃ t, ListHeard s t ∧ receiveBytes d bytes s = takeOwnedList d f t := by
  obtain ⟨hstart, hposition⟩ := listHeard_ensureStarted s
  let u := (ensureStarted s).mapLink (fun l => { l with markTimer := .stopped })
  have hstopped : ListHeard s u := hstart.trans (listHeard_mapLink rfl)
  have hheard : ListHeard s (endUnreadFrame u) :=
    hstopped.trans (listHeard_endUnreadFrame (fun h => hpos (hposition.symm.trans h)))
  have hexamine : examineSender f.sender false (ensureStarted s) = ensureStarted s := by
    simp [examineSender, hstart.own, hpeer]
  have hfollows : (endUnreadFrame u).followsOnly (ensureStarted s).link.position = false := by
    simp [State.followsOnly, hposition, hpos, hheard.state, happly]
  refine ⟨_, hheard, ?_⟩
  rw [receiveBytes, if_neg (by simp [receives_of_appliesFrames happly, hsending]), hjudge]
  show receiveList d f s = _
  rw [receiveList, hexamine]
  exact if_neg (by rw [hfollows]; exact Bool.false_ne_true)

/-- A peer's list with sixteen entries in range is applied (R134). -/
theorem takeOwnedList_applied {s : State} {f : ListFrame} {es : List ListEntry} (d : During) (hpeer : f.sender ≠ s.own)
    (h : listEntries f = some es) : takeOwnedList d f s = applyOwnedList d f.sender es s := by
  simp [takeOwnedList, hpeer, h]

/-- A peer's list that fails the checks is a frame error and nothing else (R134). -/
theorem takeOwnedList_refused {s : State} {f : ListFrame} (d : During) (hpeer : f.sender ≠ s.own)
    (h : listEntries f = none) : takeOwnedList d f s = countFrameError s := by
  simp [takeOwnedList, hpeer, h]

/-! ### The parts of an application -/

@[simp] theorem setEvent_groups (e : Event) (s : State) : (setEvent e s).groups = s.groups := rfl
@[simp] theorem setEvent_history (e : Event) (s : State) : (setEvent e s).history = s.history := rfl

/-- The request, the stale flag and a comparison deferred for this owner are answered (R126, R132). -/
def answerOwner (k : Nat) (s : State) : State :=
  let s1 := s.modifyEntry k (fun e => { e with resync := none, stale := false })
  match s1.agreement.deferred with
  | some (d, _) => if d = k then s1.mapAgreement (fun a => { a with deferred := none }) else s1
  | none => s1

/-- The owner leaves the wait set of a joining station (R114). -/
def leaveWaitSet (k : Nat) (s : State) : State :=
  if s.link.state = .joining then s.modifyEntry k (fun e => { e with joinWait := none }) else s

/-- What follows the replacements of a list: owner, owner-lost flags, wait set, RESYNC entry and RESYNC. -/
def closeOwnedList (k : Nat) (stamp : Stamp) (n : Nat) (s : State) : State :=
  setEvent .resync (recordHistory { stamp := stamp, kind := .resync, station := k, count := some n }
    (leaveWaitSet k (clearOwnerLost k (answerOwner k s))))

theorem applyOwnedList_eq (d : During) (k : Nat) (es : List ListEntry) (s : State) :
    applyOwnedList d k es s =
      let r := applyReplacements d k (listStamp s) 0 es (d ⟨0, 0⟩ (setCurrent (listStamp s) s))
      closeOwnedList k (listStamp s) r.2 r.1 := rfl

section
variable (k : Nat) (s : State)

/-- Of the owner's entry the request and the stale flag go; of the rest only a deferred comparison can. -/
theorem answerOwner_eq : ∃ f, answerOwner k s =
    (s.modifyEntry k (fun e => { e with resync := none, stale := false })).mapAgreement f := by
  unfold answerOwner
  dsimp only
  split
  · split
    · exact ⟨_, rfl⟩
    · exact ⟨id, rfl⟩
  · exact ⟨id, rfl⟩

theorem answerOwner_deferred {d : Check} (h : s.agreement.deferred = some (k, d)) :
    (answerOwner k s).agreement.deferred = none := by
  simp [answerOwner, h]

@[simp] theorem answerOwner_points : (answerOwner k s).points = s.points := by
  obtain ⟨f, h⟩ := answerOwner_eq k s
  rw [h]; rfl
@[simp] theorem answerOwner_groups : (answerOwner k s).groups = s.groups := by
  obtain ⟨f, h⟩ := answerOwner_eq k s
  rw [h]; rfl
@[simp] theorem answerOwner_link : (answerOwner k s).link = s.link := by
  obtain ⟨f, h⟩ := answerOwner_eq k s
  rw [h]; rfl
theorem answerOwner_entry (hk : 1 ≤ k) (hk24 : k ≤ 24) :
    (answerOwner k s).entry k = { s.entry k with resync := none, stale := false } := by
  obtain ⟨f, h⟩ := answerOwner_eq k s
  rw [h]
  exact State.entry_modifyEntry_same (fun e => { e with resync := none, stale := false }) s hk hk24

@[simp] theorem leaveWaitSet_points : (leaveWaitSet k s).points = s.points := by unfold leaveWaitSet; split <;> rfl
@[simp] theorem leaveWaitSet_groups : (leaveWaitSet k s).groups = s.groups := by unfold leaveWaitSet; split <;> rfl
@[simp] theorem leaveWaitSet_link : (leaveWaitSet k s).link = s.link := by unfold leaveWaitSet; split <;> rfl
@[simp] theorem leaveWaitSet_agreement : (leaveWaitSet k s).agreement = s.agreement := by
  unfold leaveWaitSet; split <;> rfl
theorem leaveWaitSet_entry (hk : 1 ≤ k) (hk24 : k ≤ 24) : (leaveWaitSet k s).entry k =
    { s.entry k with joinWait := if s.link.state = .joining then none else (s.entry k).joinWait } := by
  unfold leaveWaitSet
  split
  · exact State.entry_modifyEntry_same _ s hk hk24
  · rfl

variable (stamp : Stamp) (n : Nat)

/-- The RESYNC entry and flag come last and touch the log and the port only. -/
theorem records_closeOwnedList :
    RecordsOnly (leaveWaitSet k (clearOwnerLost k (answerOwner k s))) (closeOwnedList k stamp n s) :=
  (records_recordHistory _ _).trans (records_setEvent _ _)

theorem closeOwnedList_record (q : PointId) :
    (closeOwnedList k stamp n s).record q = (clearOwnerLost k (answerOwner k s)).record q := by
  rw [closeOwnedList, State.record_setEvent, State.record_recordHistory]
  exact State.record_of_points (leaveWaitSet_points k _) q

theorem closeOwnedList_groups :
    (closeOwnedList k stamp n s).groups = (clearOwnerLost k (answerOwner k s)).groups := by
  rw [closeOwnedList, setEvent_groups, (unlisted_recordHistory _ _).groups, leaveWaitSet_groups]

theorem closeOwnedList_link : (closeOwnedList k stamp n s).link = s.link := by
  rw [(records_closeOwnedList k s stamp n).link, leaveWaitSet_link, (records_clearOwnerLost k _).link, answerOwner_link]

theorem closeOwnedList_deferred {d : Check} (h : s.agreement.deferred = some (k, d)) :
    (closeOwnedList k stamp n s).agreement.deferred = none := by
  rw [(records_closeOwnedList k s stamp n).agreement, leaveWaitSet_agreement, (records_clearOwnerLost k _).agreement,
    answerOwner_deferred k s h]

theorem closeOwnedList_entry (hk : 1 ≤ k) (hk24 : k ≤ 24) : (closeOwnedList k stamp n s).entry k =
    { s.entry k with
        resync := none, stale := false
        joinWait := if s.link.state = .joining then none else (s.entry k).joinWait } := by
  have hlost := records_clearOwnerLost k (answerOwner k s)
  rw [State.entry_of_directory (records_closeOwnedList k s stamp n).directory, leaveWaitSet_entry k _ hk hk24, hlost.link,
    State.entry_of_directory hlost.directory, answerOwner_entry k s hk hk24, answerOwner_link]

theorem closeOwnedList_resync : (closeOwnedList k stamp n s).hasEvent .resync = true := hasEvent_setEvent_same _ _

theorem closeOwnedList_last : (closeOwnedList k stamp n s).history.entries.getLast? =
    some { stamp := stamp, kind := .resync, station := k, count := some n } := by
  rw [closeOwnedList, setEvent_history, recordHistory_history, History.append_last]

/-- After the replacements the records change in owner-lost and the two flags only. -/
theorem closeOwnedList_plain (q : PointId) : ((closeOwnedList k stamp n s).record q).plain = (s.record q).plain := by
  rw [closeOwnedList_record]
  unfold clearOwnerLost
  split
  · rw [State.record_of_points (answerOwner_points k s)]
  · rw [ownerLost_plain, State.record_of_points (answerOwner_points k s)]

theorem flagsFall_closeOwnedList : FlagsFall s (closeOwnedList k stamp n s) := by
  have hanswer : FlagsFall s (answerOwner k s) := .of_record fun q => by
    rw [State.record_of_points (answerOwner_points k s)]
  have hclear : FlagsFall s (clearOwnerLost k (answerOwner k s)) := by
    unfold clearOwnerLost
    split
    · exact hanswer
    · exact hanswer.trans (flagsFall_ownerLost k)
  exact hclear.trans (.of_record fun q => by rw [closeOwnedList_record])

variable {k s}

theorem Claims.closeOwnedList {g : Nat} {id : PointId} (h : Claims g id s) : Claims g id (closeOwnedList k stamp n s) := by
  have hrec := State.record_of_points (answerOwner_points k s) id
  have hanswer : Claims g id (answerOwner k s) := h.of_same (by simp) (by rw [hrec]) (by rw [hrec])
  have hclear : Claims g id (clearOwnerLost k (answerOwner k s)) := by
    unfold clearOwnerLost
    split
    · exact hanswer
    · exact hanswer.ownerLost k
  exact hclear.of_same (by rw [closeOwnedList_groups]) (by rw [closeOwnedList_record])
    (by rw [closeOwnedList_record])

theorem closeOwnedList_ownerLost (hk : 1 ≤ k) (hk24 : k ≤ 24) (hlive : (s.entry k).liveness ≠ .lost) {p : Nat}
    (hp : p ≤ 15) : ((closeOwnedList k stamp n s).record ⟨k, p⟩).ownerLost = false := by
  have hentry : ((answerOwner k s).entry k).liveness ≠ .lost := by
    rw [answerOwner_entry k s hk hk24]
    exact hlive
  rw [closeOwnedList_record, clearOwnerLost, if_neg hentry]
  exact ownerLost_cleared hk hk24 hp

end

/-! ### The whole application -/

theorem mem_listEntries_point {f : ListFrame} {es : List ListEntry} (h : listEntries f = some es) :
    es.map (·.point) = List.range 16 := by
  unfold listEntries at h
  split at h
  · split at h
    · cases h
      assumption
    · exact nomatch h
  · exact nomatch h

/-- The entries of a list that passes its checks are for the sixteen field points of its sender, each once (R134). -/
theorem distinctPoints_listEntries {f : ListFrame} {es : List ListEntry} (h : listEntries f = some es) {k : Nat}
    (hk : 1 ≤ k) (hk24 : k ≤ 24) : DistinctPoints k es ∧ ∀ e ∈ es, e.point ≤ 15 := by
  have hpoints := mem_listEntries_point h
  have hfield : ∀ e ∈ es, e.point ≤ 15 := fun e he => by
    have hmem : e.point ∈ List.range 16 := hpoints ▸ List.mem_map.mpr ⟨e, he, rfl⟩
    have := List.mem_range.mp hmem
    omega
  exact ⟨⟨hpoints ▸ List.nodup_range, fun e he => pointInRange_iff.mpr ⟨hk, hk24, by have := hfield e he; omega⟩⟩, hfield⟩

/-- What an entry of a list makes of the record of its point (R25, R48). -/
structure TakesEntry (k : Nat) (es : List ListEntry) (s t : State) (e : ListEntry) : Prop where
  plain : (t.record ⟨k, e.point⟩).plain = (applyReplace e (s.record ⟨k, e.point⟩)).1.plain
  ownerLost : (s.entry k).liveness ≠ .lost → (t.record ⟨k, e.point⟩).ownerLost = false
  unclaimed : e.firstOut = false ∨ Rests e ∨ e.attrs.group = 0 → (t.record ⟨k, e.point⟩).firstOut = false
  claimed : e.firstOut = true → ¬ Rests e → 1 ≤ e.attrs.group → e.attrs.group ≤ 8 →
    OpenTo e.attrs.group ⟨k, e.point⟩ s → (∀ x ∈ es, x.point ≠ e.point → Spares x e.attrs.group) →
    Claims e.attrs.group ⟨k, e.point⟩ t

/-- What the application of a list of sender k leaves: each record by its entry, the owner's entry and comparison answered,
the current stamp, RESYNC and the RESYNC entry with its count. -/
structure ListApplied (k : Nat) (es : List ListEntry) (s t : State) : Prop where
  records : ∀ e ∈ es, TakesEntry k es s t e
  deferred : ∀ d, s.agreement.deferred = some (k, d) → t.agreement.deferred = none
  entry : t.entry k = { s.entry k with
    resync := none, stale := false
    joinWait := if s.link.state = .joining then none else (s.entry k).joinWait }
  resync : t.hasEvent .resync = true
  current : t.link.current = listStamp s
  last : t.history.entries.getLast? = some
    { stamp := listStamp s, kind := .resync, station := k,
      count := some (es.countP (fun e => visiblyChanged (s.record ⟨k, e.point⟩) (t.record ⟨k, e.point⟩))) }

theorem listApplied_applyOwnedList {d : During} (hd : ∀ m s, TablesKept s (d m s)) {k : Nat} {es : List ListEntry}
    (hk : 1 ≤ k) (hk24 : k ≤ 24) (hes : DistinctPoints k es) (hfield : ∀ e ∈ es, e.point ≤ 15) (s : State) :
    ListApplied k es s (applyOwnedList d k es s) := by
  let stamp := listStamp s
  let s0 := d ⟨0, 0⟩ (setCurrent stamp s)
  let u := (applyReplacements d k stamp 0 es s0).1
  let n := (applyReplacements d k stamp 0 es s0).2
  have h0 : TablesKept (setCurrent stamp s) s0 := hd _ _
  have hrec0 : ∀ q, s0.record q = s.record q := h0.record
  obtain ⟨hlink, hdir, hagree⟩ : u.link = s0.link ∧ u.directory = s0.directory ∧ u.agreement = s0.agreement :=
    applyReplacements_link hd 0 s0
  have hlink : u.link = { s.link with current := stamp } := hlink.trans h0.link
  have hdir : ∀ j, u.entry j = s.entry j := State.entry_of_directory (hdir.trans h0.directory)
  have hagree : u.agreement = s.agreement := hagree.trans h0.agreement
  have hbare : ∀ e ∈ es, (u.record ⟨k, e.point⟩).bare = (applyReplace e (s.record ⟨k, e.point⟩)).1.bare :=
    fun e he => by rw [applyReplacements_bare hd 0 s0 hes he, hrec0]
  have hplain : ∀ e ∈ es, ((closeOwnedList k stamp n u).record ⟨k, e.point⟩).plain =
      (applyReplace e (s.record ⟨k, e.point⟩)).1.plain := fun e he => by
    rw [closeOwnedList_plain, PointRecord.plain_of_bare (hbare e he)]
  rw [applyOwnedList_eq]
  show ListApplied k es s (closeOwnedList k stamp n u)
  refine ⟨fun e he => ⟨hplain e he, fun hlive => ?_, fun hc => ?_, fun hf hr hlow hhigh ho hspare => ?_⟩,
    fun d hdef => ?_, ?_, closeOwnedList_resync k u stamp n, ?_, ?_⟩
  · exact closeOwnedList_ownerLost stamp n hk hk24 (by rwa [hdir]) (hfield e he)
  · have hu : (u.record ⟨k, e.point⟩).firstOut = false := applyReplacements_unclaimed hd 0 s0 hes he hc
    refine Bool.eq_false_iff.mpr fun hf => ?_
    exact Bool.eq_false_iff.mp hu (flagsFall_closeOwnedList k u stamp n _ hf)
  · have hopen : OpenTo e.attrs.group ⟨k, e.point⟩ s0 := ho.of_same h0.holders
    exact (claims_applyReplacements hd 0 s0 hes he hf hr hlow hhigh hopen hspare).closeOwnedList stamp n
  · exact closeOwnedList_deferred k u stamp n (by rw [hagree]; exact hdef)
  · rw [closeOwnedList_entry k u stamp n hk hk24, hdir, hlink]
  · rw [closeOwnedList_link, hlink]
  · have hcount : n = es.countP (fun e => visiblyChanged (s.record ⟨k, e.point⟩)
        ((closeOwnedList k stamp n u).record ⟨k, e.point⟩)) := by
      refine (applyReplacements_count hd 0 s0 hes).trans (List.countP_congr fun e he => ?_)
      have hsame : visiblyChanged (s.record ⟨k, e.point⟩) (applyReplace e (s.record ⟨k, e.point⟩)).1 =
          visiblyChanged (s.record ⟨k, e.point⟩) ((closeOwnedList k stamp n u).record ⟨k, e.point⟩) :=
        (PointRecord.eq_of_plain (visiblyChanged (s.record ⟨k, e.point⟩) ·) (hplain e he)).symm
      rw [hrec0, hsame]
    rw [closeOwnedList_last, ← hcount]

/-- The application speaks of the state before the frame's end as of the one after it. -/
theorem ListApplied.of_heard {k : Nat} {es : List ListEntry} {s t u : State} (hh : ListHeard s t)
    (h : ListApplied k es t u) : ListApplied k es s u := by
  have hstate := hh.state
  have hstamp := hh.stamp
  obtain ⟨hrecords, hdeferred, hentry, hresync, hcurrent, hlast⟩ := h
  rw [hstamp] at hcurrent hlast
  rw [hstate] at hentry
  rw [hh.only] at hrecords hdeferred hentry hlast
  exact ⟨fun e he => ⟨(hrecords e he).plain, (hrecords e he).ownerLost, (hrecords e he).unclaimed, (hrecords e he).claimed⟩,
    hdeferred, hentry, hresync, hcurrent, hlast⟩

/-- An action that falls inside the replacements acts on the records replaced by then (log entry 36). -/
theorem applyReplacements_fallInside (k : Nat) (stamp : Stamp) (a : InsideAction) (xs ys : List ListEntry) (s : State)
    (h : xs ≠ []) :
    (applyReplacements (fallInside [⟨a, ⟨xs.length, 0⟩⟩]) k stamp 0 (xs ++ ys) s).1 =
      (applyReplacements nothingInside k stamp xs.length ys
        (actInside a (applyReplacements nothingInside k stamp 0 xs s).1)).1 := by
  obtain ⟨front, x, rfl⟩ : ∃ front x, xs = front ++ [x] :=
    ⟨xs.dropLast, xs.getLast h, (List.dropLast_concat_getLast h).symm⟩
  let d := fallInside [⟨a, ⟨(front ++ [x]).length, 0⟩⟩]
  have hnone : ∀ j, j ≠ (front ++ [x]).length → ∀ s, d ⟨j, 0⟩ s = s :=
    fun j hj s => fallInside_none _ _ s (by simpa using hj.symm)
  have hfront : ∀ s, applyReplacements d k stamp 0 front s = applyReplacements nothingInside k stamp 0 front s :=
    applyReplacements_undisturbed fun j _ hj => hnone j (by simp; omega)
  have hlast : ∀ s, (applyReplacements d k stamp (0 + front.length) [x] s).1 =
      actInside a (applyReplacements nothingInside k stamp (0 + front.length) [x] s).1 := fun s => by
    have hact : ∀ s, d ⟨0 + front.length + 1, 0⟩ s = actInside a s := fun s => by simp [d, fallInside, inTurn]
    rw [applyReplacements_cons, hact, applyReplacements_cons]
    rfl
  have hrest : ∀ s, applyReplacements d k stamp (0 + (front ++ [x]).length) ys s =
      applyReplacements nothingInside k stamp (front ++ [x]).length ys s := fun s => by
    rw [Nat.zero_add]
    exact applyReplacements_undisturbed (fun j hj _ => hnone j (by omega)) s
  rw [applyReplacements_append, hrest, applyReplacements_append, hlast, hfront, applyReplacements_append nothingInside]

/-- Settles O25: the reception by `receiveBytes_list`, the application by `listApplied_applyOwnedList`, the place of an
action by `applyReplacements_fallInside`. -/
theorem ownedListReplacesRecords : Obligations.OwnedListReplacesRecords := by
  refine ⟨fun s bytes inside f hup happly hsending hjudge hpeer hk24 hpos => ?_,
    fun k stamp a xs ys s h => applyReplacements_fallInside k stamp a xs ys s h⟩
  obtain ⟨u, hheard, hreceive⟩ :=
    receiveBytes_list (fallInside inside) happly hsending hjudge hpeer hpos
  have hpeer' : f.sender ≠ u.own := by rwa [hheard.own]
  have hexec : exec (.ownedListReceived bytes inside) s = .next (receiveBytes (fallInside inside) bytes s) := by
    rw [exec_ownedListReceived, whenUp_of_up _ hup]
  refine ⟨fun hbad => ⟨_, hexec, ?_⟩, fun es hes => ⟨_, hexec, ?_⟩⟩
  · rw [hreceive, takeOwnedList_refused _ hpeer' hbad]
    refine ⟨congrArg (saturate 255) hheard.frameErrors, ?_⟩
    rw [hheard.only]
    exact ⟨rfl, rfl, rfl, rfl, rfl, rfl, rfl, rfl⟩
  · have hk := judge_list_sender hjudge
    obtain ⟨hdistinct, hfield⟩ := distinctPoints_listEntries hes hk hk24
    have happlied : ListApplied f.sender es s (receiveBytes (fallInside inside) bytes s) := by
      rw [hreceive, takeOwnedList_applied _ hpeer' hes]
      exact (listApplied_applyOwnedList (tables_fallInside inside) hk hk24 hdistinct hfield u).of_heard hheard
    have hentry := happlied.entry
    refine ⟨fun e he => ?_, happlied.deferred, by rw [hentry], by rw [hentry], happlied.resync, by rw [hentry], ?_⟩
    · obtain ⟨hplain, hlost, hunclaimed, hclaimed⟩ := happlied.records e he
      refine ⟨PointRecord.eq_of_plain (·.attrs) hplain, PointRecord.eq_of_plain (·.active) hplain,
        PointRecord.eq_of_plain (·.shelved) hplain, PointRecord.eq_of_plain (·.occurrence) hplain,
        fun hr => ⟨(PointRecord.eq_of_plain (·.state) hplain).trans (if_pos hr),
          (PointRecord.eq_of_plain (·.alert) hplain).trans (if_pos hr)⟩,
        fun hr => ⟨(PointRecord.eq_of_plain (·.state) hplain).trans (if_neg hr),
          (PointRecord.eq_of_plain (·.alert) hplain).trans (if_neg hr)⟩,
        PointRecord.eq_of_plain (·.lastActor) hplain, hlost, hunclaimed, fun hf hr hlow hhigh ho hspare => ?_⟩
      have hclaim := hclaimed hf hr hlow hhigh ho hspare
      exact ⟨hclaim.flag, hclaim.holder⟩
    · exact ⟨happlied.current, happlied.last⟩

end Sys2Proof.Machine
end

section
/-! The stamp order (R1), and the element that a walk keeps as the best of those it has seen: the newest stamp of R40, the
unlisted point of R34. -/

namespace Sys2Proof.Machine

open Sys2Proof

/-! ### The stamp order (R1) -/

theorem Stamp.earlier_iff {a b : Stamp} : Stamp.earlier a b = true ↔
    a.cycle < b.cycle ∨ a.cycle = b.cycle ∧ (a.slot < b.slot ∨ a.slot = b.slot ∧ a.position < b.position) := by
  simp [Stamp.earlier]

theorem Stamp.earlier_irrefl (a : Stamp) : Stamp.earlier a a = false := by
  simp [Stamp.earlier]

/-- What is not earlier than a stamp is later than an earlier one. -/
theorem Stamp.earlier_of_earlier_of_not {a b c : Stamp} (h : Stamp.earlier a b = true) (k : Stamp.earlier c b = false) :
    Stamp.earlier a c = true := by
  simp only [← Bool.not_eq_true, Stamp.earlier_iff] at *
  omega

/-- What is not earlier than a stamp is not earlier than an earlier one. -/
theorem Stamp.not_earlier_of_earlier {a b c : Stamp} (h : Stamp.earlier a b = true) (k : Stamp.earlier c b = false) :
    Stamp.earlier c a = false := by
  simp only [← Bool.not_eq_true, Stamp.earlier_iff] at *
  omega

/-- What is not later than a stamp is not later than a later one. -/
theorem Stamp.not_earlier_of_later {a b c : Stamp} (h : Stamp.earlier b a = true) (k : Stamp.earlier b c = false) :
    Stamp.earlier a c = false := by
  simp only [← Bool.not_eq_true, Stamp.earlier_iff] at *
  omega

/-! ### The best of what a walk has seen -/

section
variable {α β : Type}

/-- The answer is one of the candidates than which none is ahead, and is absent exactly when there is none. -/
structure BestOf (ahead : α → α → Bool) (among : α → Prop) (answer : Option α) : Prop where
  absent : answer = none ↔ ∀ x, ¬ among x
  best : ∀ u, answer = some u → among u ∧ ∀ x, among x → ahead x u = false

variable {ahead : α → α → Bool} {among : α → Prop}

theorem bestOf_nothing : BestOf ahead (fun _ => False) none := ⟨by simp, nofun⟩

theorem BestOf.congr {among' : α → Prop} {answer : Option α} (h : BestOf ahead among answer)
    (hiff : ∀ x, among' x ↔ among x) : BestOf ahead among' answer := by
  rwa [show among' = among from funext fun x => propext (hiff x)]

/-- The first candidate is the best. -/
theorem BestOf.first (h : BestOf ahead among none) (y : α) (hirrefl : ahead y y = false) :
    BestOf ahead (fun x => among x ∨ x = y) (some y) where
  absent := ⟨nofun, fun hno => absurd (.inr rfl) (hno y)⟩
  best := by
    rintro _ ⟨⟩
    refine ⟨.inr rfl, fun x hx => ?_⟩
    rcases hx with hx | rfl
    · exact absurd hx (h.absent.mp rfl x)
    · exact hirrefl

/-- One more candidate takes the place of the best where it is ahead of it. -/
theorem BestOf.next {b : α} (h : BestOf ahead among (some b)) (y : α) (hirrefl : ahead y y = false)
    (htrans : ∀ x, ahead y b = true → ahead x b = false → ahead x y = false) :
    BestOf ahead (fun x => among x ∨ x = y) (if ahead y b then some y else some b) := by
  obtain ⟨hb, hnone⟩ := h.best b rfl
  split
  · rename_i hy
    refine ⟨⟨nofun, fun hno => absurd (.inr rfl) (hno y)⟩, ?_⟩
    rintro _ ⟨⟩
    refine ⟨.inr rfl, fun x hx => ?_⟩
    rcases hx with hx | rfl
    · exact htrans x hy (hnone x hx)
    · exact hirrefl
  · rename_i hy
    refine ⟨⟨nofun, fun hno => absurd (.inl hb) (hno b)⟩, ?_⟩
    rintro _ ⟨⟩
    refine ⟨.inl hb, fun x hx => ?_⟩
    rcases hx with hx | rfl
    · exact hnone x hx
    · simpa using hy

/-- A walk whose every step weighs what an element offers weighs what they all offer. -/
theorem BestOf.foldl {step : Option α → β → Option α} {offers : β → α → Prop}
    (hstep : ∀ among answer x, BestOf ahead among answer → BestOf ahead (fun y => among y ∨ offers x y) (step answer x))
    (xs : List β) {answer : Option α} (h : BestOf ahead among answer) :
    BestOf ahead (fun y => among y ∨ ∃ x ∈ xs, offers x y) (xs.foldl step answer) := by
  induction xs generalizing among answer with
  | nil => simpa using h
  | cons x xs ih => exact (ih (hstep among answer x h)).congr fun y => by simp [or_assoc]

end

/-- The later of two stamps, as the best under the order of later stamps. -/
theorem bestOf_laterOf (among : Stamp → Prop) (a b : Option Stamp)
    (h : BestOf (fun x u => Stamp.earlier u x) among a) :
    BestOf (fun x u => Stamp.earlier u x) (fun l => among l ∨ b = some l) (laterOf a b) := by
  cases b with
  | none =>
    have hsame : laterOf a none = a := by cases a <;> rfl
    simpa [hsame] using h
  | some y =>
    refine BestOf.congr (among := fun l => among l ∨ l = y) ?_ fun l => by simp [eq_comm]
    cases a with
    | none => exact h.first y (Stamp.earlier_irrefl y)
    | some x =>
      exact h.next y (Stamp.earlier_irrefl y) fun z hy hz => Stamp.not_earlier_of_later hy hz

/-- The candidate with the earlier stamp, as the best under the order of earlier stamps. -/
theorem bestOf_earliestPoint (s : State) (among : PointId → Prop) (best : Option PointId) (id : PointId)
    (h : BestOf (fun x u => Stamp.earlier (s.alertOf x) (s.alertOf u)) among best) :
    BestOf (fun x u => Stamp.earlier (s.alertOf x) (s.alertOf u)) (fun x => among x ∨ x = id)
      (earliestPoint s best id) := by
  cases best with
  | none => exact h.first id (Stamp.earlier_irrefl _)
  | some b => exact h.next id (Stamp.earlier_irrefl _) fun x hid hx => Stamp.not_earlier_of_earlier hid hx

end Sys2Proof.Machine
end

section
/-! The Alarm List (ch. 2): stamp places, the entry of a point into the list, its removal with the admission that follows,
repositioning and change in place, the victim of an eviction and the point to be admitted. -/

namespace Sys2Proof.Machine

open Sys2Proof

/-! ### Alert stamps and stamp places (R30) -/

theorem UnlistedOnly.alertOf {s t : State} (h : UnlistedOnly s t) (q : PointId) : t.alertOf q = s.alertOf q := by
  rw [State.alertOf, h.record q]
  rfl

/-- Entries in stamp order: none stands before an earlier one. -/
def State.InStampOrder (s : State) (es : List PointId) : Prop :=
  es.Pairwise (fun a b => Stamp.earlier (s.alertOf b) (s.alertOf a) = false)

/-- A stamp place rests on the alert stamps only. -/
theorem insertByStamp_congr {s t : State} (h : ∀ q, t.alertOf q = s.alertOf q) (id : PointId) (es : List PointId) :
    insertByStamp t id es = insertByStamp s id es := by
  induction es with
  | nil => rfl
  | cons x xs ih => simp only [insertByStamp, h, ih]

/-- The stamp place of a point: what is not later stands before it, what is later behind it. -/
theorem insertByStamp_split (s : State) (id : PointId) {es : List PointId} (h : s.InStampOrder es) :
    ∃ front back, es = front ++ back ∧ insertByStamp s id es = front ++ id :: back
      ∧ (∀ x ∈ front, Stamp.earlier (s.alertOf id) (s.alertOf x) = false)
      ∧ ∀ x ∈ back, Stamp.earlier (s.alertOf id) (s.alertOf x) = true := by
  induction es with
  | nil => exact ⟨[], [], rfl, rfl, nofun, nofun⟩
  | cons x xs ih =>
    obtain ⟨hx, hxs⟩ := List.pairwise_cons.mp h
    by_cases hlater : Stamp.earlier (s.alertOf id) (s.alertOf x) = true
    · refine ⟨[], x :: xs, rfl, if_pos hlater, nofun, fun y hy => ?_⟩
      rcases List.mem_cons.mp hy with rfl | hy
      · exact hlater
      · exact Stamp.earlier_of_earlier_of_not hlater (hx y hy)
    · obtain ⟨front, back, rfl, hplace, hfront, hback⟩ := ih hxs
      refine ⟨x :: front, back, rfl, (if_neg hlater).trans (congrArg (x :: ·) hplace), fun y hy => ?_, hback⟩
      rcases List.mem_cons.mp hy with rfl | hy
      · exact Bool.eq_false_iff.mpr hlater
      · exact hfront y hy

/-! ### What each operation makes of the list (R28, R30, R33, R37) -/

@[simp] theorem listInsert_list (id : PointId) (s : State) : (listInsert id s).list =
    { s.list with entries := insertByStamp s id s.list.entries, generation := (s.list.generation + 1) % 256 } := rfl

@[simp] theorem listRemove_list (id : PointId) (s : State) : (listRemove id s).list =
    { s.list with entries := s.list.entries.erase id, generation := (s.list.generation + 1) % 256 } := rfl

@[simp] theorem setUnlisted_list (id : PointId) (s : State) :
    (setUnlisted id s).list = { s.list with unlistedCount := s.list.unlistedCount + 1 } := rfl

@[simp] theorem recordOverflow_list (id : PointId) (stamp : Stamp) (s : State) :
    (recordOverflow id stamp s).list = s.list := by
  rw [recordOverflow, recordHistory_eq]

@[simp] theorem recordOverflow_record (id : PointId) (stamp : Stamp) (s : State) (q : PointId) :
    (recordOverflow id stamp s).record q = s.record q :=
  State.record_recordHistory s _ q

theorem bumpGeneration_listchg (s : State) : (bumpGeneration s).hasEvent .listchg = true :=
  hasEvent_setEvent_same .listchg _

theorem setUnlisted_unlisted {id : PointId} (s : State) (h : pointInRange id.owner id.point = true) :
    ((setUnlisted id s).record id).unlisted = true :=
  congrArg PointRecord.unlisted (State.record_setRecord_same _ s h)

theorem clearUnlisted_of_unlisted {id : PointId} {s : State} (h : (s.record id).unlisted = true) :
    clearUnlisted id s = { s.setRecord id { s.record id with unlisted := false } with
      list := { s.list with unlistedCount := s.list.unlistedCount - 1 } } := by
  rw [clearUnlisted, if_pos h]
  rfl

theorem clearUnlisted_of_clear {id : PointId} {s : State} (h : (s.record id).unlisted = false) :
    clearUnlisted id s = s := by
  simp [clearUnlisted, h]

/-! ### Entry into the list (R30 to R32) -/

theorem listEnter_room {s : State} (id : PointId) (stamp : Stamp) (h : s.list.entries.length < 80) :
    listEnter id stamp s = listInsert id s := if_pos h

theorem listEnter_evicts {s : State} {v : PointId} (id : PointId) (stamp : Stamp) (h : 80 ≤ s.list.entries.length)
    (hc : (s.record id).attrs.cls = .shutdown) (hv : s.victim = some v) :
    listEnter id stamp s = evict v id stamp s := by
  simp [listEnter, Config.listPlaces, Nat.not_lt.mpr h, hc, hv]

theorem listEnter_refuses {s : State} (id : PointId) (stamp : Stamp) (h : 80 ≤ s.list.entries.length)
    (hc : (s.record id).attrs.cls ≠ .shutdown ∨ s.victim = none) : listEnter id stamp s = refuse id stamp s := by
  rw [listEnter, if_neg (Nat.not_lt.mpr h)]
  split
  · rename_i hshutdown
    rw [hc.resolve_left (not_not_intro hshutdown)]
  · rfl

theorem evict_list (v id : PointId) (stamp : Stamp) (s : State) : (evict v id stamp s).list =
    { entries := insertByStamp s id (s.list.entries.erase v)
      generation := (s.list.generation + 2) % 256, unlistedCount := s.list.unlistedCount + 1 } := by
  have hstamps : ∀ q, (setUnlisted v (listRemove v s)).alertOf q = s.alertOf q :=
    ((unlisted_listRemove v s).trans (unlisted_setUnlisted v _)).alertOf
  simp [evict, insertByStamp_congr hstamps, Nat.add_assoc]

theorem evict_unlisted {v : PointId} (id : PointId) (stamp : Stamp) (s : State)
    (h : pointInRange v.owner v.point = true) : ((evict v id stamp s).record v).unlisted = true := by
  rw [evict, recordOverflow_record]
  exact setUnlisted_unlisted (listRemove v s) h

theorem evict_history (v id : PointId) (stamp : Stamp) (s : State) :
    (evict v id stamp s).history = s.history.append (overflowEntry stamp v (s.record v)) := by
  rw [evict, recordOverflow_history, overflowEntry_of_bare stamp v ((unlisted_makeRoom v id s).bare v)]
  simp

theorem refuse_list (id : PointId) (stamp : Stamp) (s : State) :
    (refuse id stamp s).list = { s.list with unlistedCount := s.list.unlistedCount + 1 } := by
  rw [refuse, recordOverflow_list, setUnlisted_list]

theorem refuse_unlisted {id : PointId} (stamp : Stamp) (s : State) (h : pointInRange id.owner id.point = true) :
    ((refuse id stamp s).record id).unlisted = true := by
  rw [refuse, recordOverflow_record]
  exact setUnlisted_unlisted s h

theorem refuse_history (id : PointId) (stamp : Stamp) (s : State) :
    (refuse id stamp s).history = s.history.append (overflowEntry stamp id (s.record id)) := by
  rw [refuse, recordOverflow_history, overflowEntry_of_bare stamp id ((unlisted_setUnlisted id s).bare id)]
  simp

/-! ### The victim of an eviction (R31) -/

theorem evictable_iff {r : PointRecord} :
    evictable r = true ↔ r.attrs.cls = .alarm ∧ (r.state = .acked ∨ r.state = .ringback) := by
  simp [evictable]

theorem victim_none_iff {s : State} : s.victim = none ↔ ∀ id ∈ s.list.entries, ¬ evictable (s.record id) = true :=
  List.find?_eq_none

/-- The victim is the first evictable entry of the list. -/
theorem victim_split {s : State} {v : PointId} (h : s.victim = some v) :
    evictable (s.record v) = true ∧ ∃ front back, s.list.entries = front ++ v :: back
      ∧ ∀ x ∈ front, ¬ evictable (s.record x) = true := by
  obtain ⟨hv, front, back, hsplit, hfront⟩ := List.find?_eq_some_iff_append.mp h
  exact ⟨hv, front, back, hsplit, fun x hx => by simpa using hfront x hx⟩

/-- In stamp order the first evictable entry is the earliest. -/
theorem victim_earliest {s : State} {v x : PointId} (h : s.victim = some v) (ho : s.InStampOrder s.list.entries)
    (hx : x ∈ s.list.entries) (he : evictable (s.record x) = true) :
    Stamp.earlier (s.alertOf x) (s.alertOf v) = false := by
  obtain ⟨-, front, back, hsplit, hfront⟩ := victim_split h
  rw [hsplit] at ho hx
  obtain ⟨-, htail, -⟩ := List.pairwise_append.mp ho
  rcases List.mem_append.mp hx with hx | hx
  · exact absurd he (hfront x hx)
  · rcases List.mem_cons.mp hx with rfl | hx
    · exact Stamp.earlier_irrefl _
    · exact (List.pairwise_cons.mp htail).1 x hx

/-! ### The point to be admitted (R34) -/

/-- The earliest-stamped unlisted point of a class is the best under the order of earlier stamps. -/
theorem bestOf_earliestUnlisted (s : State) (c : PointClass) :
    BestOf (fun x u => Stamp.earlier (s.alertOf x) (s.alertOf u))
      (fun x => x ∈ allPoints ∧ (s.record x).unlisted = true ∧ (s.record x).attrs.cls = c) (earliestUnlisted s c) := by
  refine (bestOf_nothing.foldl (offers := fun id x => x = id) (bestOf_earliestPoint s) _).congr fun x => ?_
  simp

/-- The admitted point is the earliest unlisted one of its class, and of class SHUTDOWN where any unlisted point is. -/
theorem admissible_chosen {s : State} {u : PointId} (h : s.admissible = some u) :
    earliestUnlisted s (s.record u).attrs.cls = some u
      ∧ ((s.record u).attrs.cls = .shutdown ∨ earliestUnlisted s .shutdown = none) := by
  unfold State.admissible at h
  split at h
  · rename_i id hid
    obtain rfl := Option.some.inj h
    obtain ⟨⟨-, -, hcls⟩, -⟩ := (bestOf_earliestUnlisted s .shutdown).best _ hid
    exact ⟨by rwa [hcls], .inl hcls⟩
  · rename_i hnone
    obtain ⟨⟨-, -, hcls⟩, -⟩ := (bestOf_earliestUnlisted s .alarm).best _ h
    exact ⟨by rwa [hcls], .inr hnone⟩

theorem admissible_unlisted {s : State} {u : PointId} (h : s.admissible = some u) : (s.record u).unlisted = true := by
  obtain ⟨⟨-, hu, -⟩, -⟩ := (bestOf_earliestUnlisted s _).best u (admissible_chosen h).1
  exact hu

/-- No ALARM point is admitted while a SHUTDOWN point waits. -/
theorem admissible_shutdown_first {s : State} {u x : PointId} (h : s.admissible = some u) (hx : x ∈ allPoints)
    (hux : (s.record x).unlisted = true) (hc : (s.record x).attrs.cls = .shutdown) :
    (s.record u).attrs.cls = .shutdown :=
  (admissible_chosen h).2.resolve_right fun hnone =>
    (bestOf_earliestUnlisted s .shutdown).absent.mp hnone x ⟨hx, hux, hc⟩

theorem admissible_earliest {s : State} {u x : PointId} (h : s.admissible = some u) (hx : x ∈ allPoints)
    (hux : (s.record x).unlisted = true) (hc : (s.record x).attrs.cls = (s.record u).attrs.cls) :
    Stamp.earlier (s.alertOf x) (s.alertOf u) = false :=
  ((bestOf_earliestUnlisted s _).best u (admissible_chosen h).1).2 x ⟨hx, hux, hc⟩

/-! ### Removal and admission (R33, R34) -/

theorem listAdmit_none_waiting {s : State} (h : s.list.unlistedCount = 0) : listAdmit s = s := by
  simp [listAdmit, h]

/-- With room and a point that waits, the point to be admitted takes its stamp place. -/
theorem listAdmit_list {s : State} {u : PointId} (hroom : s.list.entries.length < 80) (hwait : 0 < s.list.unlistedCount)
    (hu : s.admissible = some u) : (listAdmit s).list =
      { entries := insertByStamp s u s.list.entries
        generation := (s.list.generation + 1) % 256, unlistedCount := s.list.unlistedCount - 1 } := by
  have hstamps := (unlisted_clearUnlisted u s).alertOf
  rw [listAdmit, if_pos ⟨hroom, hwait⟩, hu, listInsert_list, insertByStamp_congr hstamps,
    clearUnlisted_of_unlisted (admissible_unlisted hu)]

/-! ### Change in place and repositioning (R35, R37) -/

/-- The list with other entries after n changes of the generation count, which set LISTCHG. -/
def relisted (n : Nat) (entries : List PointId) (s : State) : State :=
  { s with
      list := { s.list with entries := entries, generation := (s.list.generation + n) % 256 }
      port := s.port.flagged .listchg }

theorem bumpGeneration_eq (s : State) : bumpGeneration s = relisted 1 s.list.entries s := rfl

theorem listMove_eq (id : PointId) (s : State) :
    listMove id s = relisted 1 (insertByStamp s id (s.list.entries.erase id)) s := rfl

theorem Port.flagged_flagged (e : Event) (p : Port) : (p.flagged e).flagged e = p.flagged e := by
  simp [Port.flagged, BitVec.or_assoc]

theorem bumpGeneration_relisted (n : Nat) (es : List PointId) (s : State) :
    bumpGeneration (relisted n es s) = relisted (n + 1) es s := by
  rw [bumpGeneration_eq, relisted, relisted, relisted]
  simp only [Port.flagged_flagged, Nat.mod_add_mod, Nat.add_assoc]

/-! ### The list on a report (R29) -/

section
variable {r : Report} {s : State}

theorem listFollow_of_removed (hb : r.before.state ≠ .normal) (ha : r.after.state = .normal)
    (hl : r.id ∈ s.list.entries) : listFollow r s = listAdmit (listRemove r.id s) := by
  simp [listFollow, hb, ha, hl]

theorem listFollow_of_unlisted (hb : r.before.state ≠ .normal) (ha : r.after.state = .normal)
    (hl : r.id ∉ s.list.entries) : listFollow r s = clearUnlisted r.id s := by
  simp [listFollow, hb, ha, hl]

/-- A report that does not enter or leave NORMAL concerns listed points only. -/
theorem listFollow_of_silent (h : r.before.state = .normal ↔ r.after.state = .normal)
    (hs : r.before.state = .normal ∨ r.id ∉ s.list.entries) : listFollow r s = s := by
  by_cases hb : r.before.state = .normal
  · simp [listFollow, hb, h.mp hb]
  · have hl : r.id ∉ s.list.entries := hs.resolve_left hb
    have ha : r.after.state ≠ .normal := fun ha => hb (h.mpr ha)
    simp [listFollow, hb, ha, hl]

theorem listFollow_of_moved (hb : r.before.state ≠ .normal) (ha : r.after.state ≠ .normal) (hl : r.id ∈ s.list.entries)
    (hstamp : r.before.alert ≠ r.after.alert) : listFollow r s =
      relisted (if r.before.state = r.after.state then 1 else 2) (insertByStamp s r.id (s.list.entries.erase r.id)) s := by
  by_cases hstate : r.before.state = r.after.state
  · simp [listFollow, ha, hl, hstamp, hstate, listMove_eq]
  · simp [listFollow, hb, ha, hl, hstamp, hstate, listMove_eq, bumpGeneration_relisted]

theorem listFollow_of_changed (hb : r.before.state ≠ .normal) (ha : r.after.state ≠ .normal) (hl : r.id ∈ s.list.entries)
    (hstamp : r.before.alert = r.after.alert) (hstate : r.before.state ≠ r.after.state) :
    listFollow r s = relisted 1 s.list.entries s := by
  simp [listFollow, hb, ha, hl, hstamp, hstate, bumpGeneration_eq]

theorem listFollow_of_unchanged (ha : r.after.state ≠ .normal) (hl : r.id ∈ s.list.entries)
    (hstamp : r.before.alert = r.after.alert) (hstate : r.before.state = r.after.state) : listFollow r s = s := by
  simp [listFollow, ha, hl, hstamp, hstate]

/-- A listed point that reaches NORMAL while none waits leaves its place and nothing else. -/
theorem listFollow_removed_list (hb : r.before.state ≠ .normal) (ha : r.after.state = .normal)
    (hl : r.id ∈ s.list.entries) (hwait : s.list.unlistedCount = 0) : (listFollow r s).list =
      { s.list with entries := s.list.entries.erase r.id, generation := (s.list.generation + 1) % 256 } := by
  rw [listFollow_of_removed hb ha hl, listAdmit_none_waiting (s := listRemove r.id s) hwait, listRemove_list]

/-- A listed point that reaches NORMAL while another waits gives up its place to the point to be admitted. -/
theorem listFollow_admitted_list {u : PointId} (hb : r.before.state ≠ .normal) (ha : r.after.state = .normal)
    (hl : r.id ∈ s.list.entries) (hlen : s.list.entries.length ≤ 80) (hwait : 0 < s.list.unlistedCount)
    (hu : s.admissible = some u) : (listFollow r s).list =
      { entries := insertByStamp s u (s.list.entries.erase r.id)
        generation := (s.list.generation + 2) % 256, unlistedCount := s.list.unlistedCount - 1 } := by
  have hroom : (listRemove r.id s).list.entries.length < 80 := by
    have hpos := List.length_pos_of_mem hl
    rw [listRemove_list, List.length_erase_of_mem hl]
    omega
  have hadmit : (listRemove r.id s).admissible = some u := hu
  have hstamps := (unlisted_listRemove r.id s).alertOf
  rw [listFollow_of_removed hb ha hl, listAdmit_list hroom hwait hadmit, insertByStamp_congr hstamps]
  simp [Nat.add_assoc]

end

/-- Settles O54: the stamp place by `insertByStamp_split`, the entry by `listEnter_room`, `listEnter_evicts` and
`listEnter_refuses`, each other report by its lemma about `listFollow`, the victim as the first evictable entry, the admitted
point as the best of the unlisted ones. -/
theorem alarmListKeepsItsPlaces : Obligations.AlarmListKeepsItsPlaces := by
  refine ⟨fun s id es h => insertByStamp_split s id h, fun s id stamp => ⟨fun h => ?_, fun h hc v hv hr => ?_,
    fun h hc hr => ?_⟩, fun r s hb ha hl hlen => ⟨listFollow_removed_list hb ha hl,
      fun hwait u => listFollow_admitted_list hb ha hl hlen hwait⟩, fun r s hb ha hl _ => ?_, fun r s h => ?_,
    fun s => ?_, fun s u hu => ⟨admissible_unlisted hu, fun x hx hux =>
      ⟨admissible_shutdown_first hu hx hux, admissible_earliest hu hx hux⟩⟩⟩
  · rw [listEnter_room id stamp h]
    exact ⟨rfl, bumpGeneration_listchg _, rfl, rfl⟩
  · rw [listEnter_evicts id stamp h hc hv]
    exact ⟨evict_list v id stamp s, evict_unlisted id stamp s hr, evict_history v id stamp s⟩
  · rw [listEnter_refuses id stamp h hc]
    exact ⟨refuse_list id stamp s, refuse_unlisted stamp s hr, refuse_history id stamp s⟩
  · rw [listFollow_of_unlisted hb ha hl]
    exact ⟨clearUnlisted_of_unlisted, clearUnlisted_of_clear⟩
  · refine ⟨listFollow_of_silent h, fun hb hl => ?_⟩
    have ha : r.after.state ≠ .normal := mt h.mpr hb
    exact ⟨listFollow_of_moved hb ha hl, listFollow_of_changed hb ha hl, listFollow_of_unchanged ha hl⟩
  · simp only [← evictable_iff]
    exact ⟨victim_none_iff, fun v hv => ⟨victim_split hv, fun ho x => victim_earliest hv ho⟩⟩

end Sys2Proof.Machine
end

section
/-! The questions to the Alarm List (R40) and the notices that walk a selection of it (R41 to R43, R157): each selected point
takes the event once, and one entry tells their number. -/

namespace Sys2Proof.Machine

open Sys2Proof

/-! ### The questions (R39 to R42) -/

theorem inMask_iff {mask : ZoneMask} {zone : Option Nat} :
    inMask mask zone = true ↔ ∃ z, zone = some z ∧ 1 ≤ z ∧ z ≤ 8 ∧ mask.getLsbD (z - 1) = true := by
  cases zone <;> simp [inMask, and_assoc]

theorem acknowledgeable_iff {r : PointRecord} : acknowledgeable r = true ↔ r.state = .alert ∨ r.state = .returned := by
  simp [acknowledgeable]

theorem resettable_iff {r : PointRecord} : resettable r = true ↔ r.state = .ringback := by
  simp [resettable]

/-- The newest stamp is the best, under the order of later stamps, of those asked about. -/
theorem bestOf_newest (s : State) (qualifies : PointRecord → Bool) (mask : ZoneMask) :
    BestOf (fun x u => Stamp.earlier u x)
      (fun l => ∃ id, id ∈ s.list.entries ∧ qualifies (s.record id) = true
        ∧ inMask mask (s.zoneOf id.owner) = true ∧ (s.record id).alert = some l)
      (s.newest qualifies mask) := by
  refine (bestOf_nothing.foldl (offers := fun id l => (s.record id).alert = some l)
    (fun among best id => bestOf_laterOf among best (s.record id).alert) _).congr fun l => ?_
  simp [and_assoc]

theorem mem_selection {s : State} {qualifies : PointRecord → Bool} {mask : ZoneMask} {limit : Stamp} {id : PointId} :
    id ∈ s.selection qualifies mask limit ↔ id ∈ s.list.entries ∧ qualifies (s.record id) = true
      ∧ inMask mask (s.zoneOf id.owner) = true ∧ Stamp.earlier limit (s.alertOf id) = false := by
  simp [State.selection, and_assoc]

/-! ### Records apart from the unlisted flag -/

/-- A record without the flag that the Alarm List keeps in it (R28). -/
def PointRecord.unplaced (r : PointRecord) : PointRecord := { r with unlisted := false }

theorem PointRecord.unplaced_eq_iff {r q : PointRecord} :
    r.unplaced = q.unplaced ↔ r = { q with unlisted := r.unlisted } := by
  cases r
  cases q
  simp [PointRecord.unplaced]

theorem UnlistedOnly.unplaced {s t : State} (h : UnlistedOnly s t) (q : PointId) :
    (t.record q).unplaced = (s.record q).unplaced :=
  PointRecord.unplaced_eq_iff.mpr (h.record q)

/-! ### The events of a walk -/

/-- An event that a walk brings to points on the list: it is no raise and no replacement, no entry is made of it, it looks
at no unlisted flag, and it applies to the records that qualify, which are annunciated. -/
structure WalkEvent (event : RecordEvent) (qualifies : PointRecord → Bool)
    (change : PointRecord → PointRecord × ReportOutcome) : Prop where
  kind : event = .acknowledge ∨ event = .reset
  change_congr : ∀ r q : PointRecord, r.unplaced = q.unplaced → (change r).1.unplaced = (change q).1.unplaced
  qualifies_congr : ∀ r q : PointRecord, r.unplaced = q.unplaced → qualifies r = qualifies q
  applied : ∀ r, qualifies r = true → (change r).2 = .applied
  annunciated : ∀ r, qualifies r = true → r.state ≠ .normal

/-- What looks at no unlisted flag gives the same for records that differ in it only. -/
theorem congr_of_unplaced {β : Type} {f : PointRecord → β} (h : ∀ r : PointRecord, f r.unplaced = f r) (r q : PointRecord)
    (hrq : r.unplaced = q.unplaced) : f r = f q := by
  rw [← h r, hrq, h q]

theorem unplaced_acknowledge (k : Nat) (r : PointRecord) :
    (applyAcknowledge k r.unplaced).1.unplaced = (applyAcknowledge k r).1.unplaced := by
  obtain ⟨⟨cls, seq, group⟩, active, st, _⟩ := r
  cases st <;> cases seq <;> rfl

theorem unplaced_reset (k : Nat) (r : PointRecord) :
    (applyReset k r.unplaced).1.unplaced = (applyReset k r).1.unplaced := by
  obtain ⟨_, _, st, _⟩ := r
  cases st <;> rfl

theorem walkEvent_acknowledge (k : Nat) : WalkEvent .acknowledge acknowledgeable (applyAcknowledge k) where
  kind := .inl rfl
  change_congr := congr_of_unplaced (f := fun r => (applyAcknowledge k r).1.unplaced) (unplaced_acknowledge k)
  qualifies_congr := congr_of_unplaced fun _ => rfl
  applied r h := by
    rcases acknowledgeable_iff.mp h with h | h
    · rw [applyAcknowledge_alert k h]
    · rw [applyAcknowledge_returned k h]
  annunciated r h := by
    rcases acknowledgeable_iff.mp h with h | h <;> simp [h]

theorem walkEvent_reset (k : Nat) : WalkEvent .reset resettable (applyReset k) where
  kind := .inr rfl
  change_congr := congr_of_unplaced (f := fun r => (applyReset k r).1.unplaced) (unplaced_reset k)
  qualifies_congr := congr_of_unplaced fun _ => rfl
  applied r h := by rw [applyReset_ringback k (resettable_iff.mp h)]
  annunciated r h := by simp [resettable_iff.mp h]

/-! ### One event of a walk -/

/-- A report of a point that was annunciated finds no full list to be logged (R31, R32). -/
theorem listFollow_history_of_annunciated {r : Report} (s : State) (h : r.before.state ≠ .normal) :
    (listFollow r s).history = s.history := by
  simp only [listFollow, h, if_false]
  split
  · split <;> simp
  · split
    · split <;> split <;> simp
    · rfl

/-- A report that is no raise and no replacement leaves the first-out flags to the event itself (R46, R48). -/
theorem deliver_unplaced {r : Report} (s : State) (hm : marksFirstOut r = false) (he : r.event ≠ .replace) (q : PointId) :
    ((deliver r s).record q).unplaced = (s.record q).unplaced := by
  have hgroups : ∀ u : State, (groupsFollow r u).record q = u.record q := fun u => by
    simp [groupsFollow_of_no_raise u hm, firstOutReplace, he]
  rw [deliver, announceFollow_record, newAlertFollow_record, hgroups, (unlisted_untilList r s).unplaced]

section
variable {event : RecordEvent} {qualifies : PointRecord → Bool} {change : PointRecord → PointRecord × ReportOutcome}
  (h : WalkEvent event qualifies change) (stamp : Stamp) (actor : Option Nat)
include h

theorem WalkEvent.unlogged {r : Report} (hr : r.event = event) : pointEntry r = none ∧ staleEntry r = none := by
  rcases h.kind with he | he <;> simp [pointEntry, staleEntry, hr, he]

theorem WalkEvent.no_raise {r : Report} (hr : r.event = event) : marksFirstOut r = false ∧ r.event ≠ .replace := by
  rcases h.kind with he | he <;> simp [marksFirstOut, hr, he]

/-- Beside unlisted flags, the event changes the record of its point only. -/
theorem WalkEvent.record (id : PointId) (s : State) (q : PointId) :
    ((recordEvent id event stamp actor change s).1.record q).unplaced =
      ((s.setRecord id (change (s.record id)).1).record q).unplaced := by
  obtain ⟨hmark, hreplace⟩ := h.no_raise (r := eventReport id event stamp actor change s) rfl
  exact deliver_unplaced _ hmark hreplace q

theorem WalkEvent.history {id : PointId} {s : State} (hq : qualifies (s.record id) = true) :
    (recordEvent id event stamp actor change s).1.history = s.history := by
  let r := eventReport id event stamp actor change s
  obtain ⟨hpoint, hstale⟩ := h.unlogged (r := r) rfl
  calc (deliver r (s.setRecord id (change (s.record id)).1)).history
    _ = (historyFollow r (s.setRecord id (change (s.record id)).1)).history := by
      rw [deliver_history, listFollow_history_of_annunciated (r := r) _ (h.annunciated _ hq)]
    _ = s.history := by
      rw [historyFollow_silent _ hpoint hstale]
      rfl

/-- A point outside the table is at rest, so a record that qualifies is one of the table. -/
theorem WalkEvent.inRange {id : PointId} {s : State} (hq : qualifies (s.record id) = true) :
    pointInRange id.owner id.point = true := by
  refine Decidable.byContradiction fun hout => h.annunciated _ hq ?_
  have hplace : ¬ pointIndex id < 408 := by simp [pointIndex, hout, Config.records]
  simp [State.record, tableGet, hplace, PointRecord.reset]

/-! ### The walk -/

/-- A walk over points that qualify brings the event to each of them once, counts them all, and logs nothing. -/
theorem WalkEvent.walk (part done : Nat) (ids : List PointId) (s : State) (hn : ids.Nodup)
    (hq : ∀ id ∈ ids, qualifies (s.record id) = true) :
    (recordEvents nothingInside part event stamp actor change done ids s).2 = ids.length
      ∧ (recordEvents nothingInside part event stamp actor change done ids s).1.history = s.history
      ∧ ∀ id, ((recordEvents nothingInside part event stamp actor change done ids s).1.record id).unplaced =
          (if id ∈ ids then (change (s.record id)).1 else s.record id).unplaced := by
  induction ids generalizing done s with
  | nil => simp [recordEvents]
  | cons x xs ih =>
    obtain ⟨hx, hxs⟩ := List.nodup_cons.mp hn
    have hqx := hq x List.mem_cons_self
    let t := (recordEvent x event stamp actor change s).1
    have hself : (t.record x).unplaced = (change (s.record x)).1.unplaced := by
      rw [h.record, State.record_setRecord_same _ s (h.inRange hqx)]
    have hother : ∀ q, q ≠ x → (t.record q).unplaced = (s.record q).unplaced := fun q hne => by
      rw [h.record, State.record_setRecord_other _ s hne]
    have hstill : ∀ id ∈ xs, qualifies (t.record id) = true := fun id hid => by
      rw [h.qualifies_congr _ _ (hother id fun e => hx (e ▸ hid))]
      exact hq id (List.mem_cons_of_mem x hid)
    obtain ⟨hcount, hlog, hrecords⟩ := ih (done + 1) t hxs hstill
    have happlied : (recordEvent x event stamp actor change s).2 = .applied := h.applied _ hqx
    refine ⟨?_, hlog.trans (h.history stamp actor hqx), fun id => (hrecords id).trans ?_⟩
    · rw [recordEvents, happlied, if_pos rfl]
      exact congrArg (· + 1) hcount
    · by_cases hid : id = x
      · subst hid
        rw [if_neg hx, if_pos List.mem_cons_self, hself]
      · by_cases hmem : id ∈ xs
        · rw [if_pos hmem, if_pos (List.mem_cons_of_mem x hmem)]
          exact h.change_congr _ _ (hother id hid)
        · rw [if_neg hmem, if_neg (by simp [hid, hmem])]
          exact hother id hid

/-- The walk of a notice: the count of its selection, the one entry, and the record of every point. -/
theorem WalkEvent.notice (kind : HistoryKind) (k : Nat) (mask : ZoneMask) (limit : Stamp) (s : State)
    (hn : s.list.entries.Nodup) :
    let selected := s.selection qualifies mask limit
    let r := recordEvents nothingInside stamp.position event stamp (some k) change 0 selected s
    let entry (n : Nat) : HistoryEntry :=
      { stamp := stamp, kind := kind, station := k, actor := some k, count := some n }
    NoticeResult.count r.2 = .count selected.length
      ∧ (recordHistory (entry r.2) r.1).history = s.history.append (entry selected.length)
      ∧ ∀ id, (recordHistory (entry r.2) r.1).record id =
          { (if id ∈ selected then (change (s.record id)).1 else s.record id) with
            unlisted := ((recordHistory (entry r.2) r.1).record id).unlisted } := by
  intro selected r entry
  obtain ⟨hcount, hlog, hrecords⟩ := h.walk stamp (some k) stamp.position 0 selected s (hn.filter _)
    fun id hid => (mem_selection.mp hid).2.1
  have hr : r.2 = selected.length := hcount
  refine ⟨congrArg NoticeResult.count hcount, ?_, fun id => PointRecord.unplaced_eq_iff.mp ?_⟩
  · rw [recordHistory_history, hr]
    exact congrArg (·.append (entry selected.length)) hlog
  · rw [State.record_recordHistory]
    exact hrecords id

end

/-- Settles O37: the newest stamp by `bestOf_newest`, the selections by `mem_selection`, both walks by `WalkEvent.notice`. -/
theorem selectionsAndWalks : Obligations.SelectionsAndWalks := by
  refine ⟨fun s qualifies mask => ?_, fun s qualifies mask limit => ⟨List.filter_sublist, fun id => ?_⟩,
    fun r => ⟨acknowledgeable_iff, resettable_iff⟩, fun k i c own mask limit s hn =>
      ⟨(walkEvent_acknowledge k).notice ⟨c, k, i⟩ .ackUpto k mask limit s hn,
        (walkEvent_reset k).notice ⟨c, k, i⟩ .resetUpto k mask limit s hn⟩⟩
  · have hnewest := bestOf_newest s qualifies mask
    refine ⟨hnewest.absent.trans ?_, fun l hl => ?_⟩
    · simp only [not_exists]
      exact forall_comm
    · obtain ⟨hasked, hlatest⟩ := hnewest.best l hl
      exact ⟨hasked, fun id l' hid => hlatest l' ⟨id, hid⟩⟩
  · rw [mem_selection, inMask_iff]

end Sys2Proof.Machine
end

section
/-! The trip latch (R54 to R58): the first-out part of a report leaves the unit's counts alone, an event that changes no trip
cause leaves the latch, and a local reset action releases it by the table of R57 on every path. -/

namespace Sys2Proof.Machine

open Sys2Proof

/-! ### The unit's groups on the one side, its counts and latch on the other -/

/-- Of the Group and Zone Unit only the holders of the groups differ. -/
def HoldersOnly (s t : State) : Prop := t.groups = { s.groups with holders := t.groups.holders }

theorem HoldersOnly.refl (s : State) : HoldersOnly s s := rfl

theorem HoldersOnly.trans {s t u : State} (h : HoldersOnly s t) (k : HoldersOnly t u) : HoldersOnly s u :=
  Eq.trans k (by rw [h])

theorem HoldersOnly.zone {s t : State} (h : HoldersOnly s t) (z : Nat) : t.zone z = s.zone z := by
  rw [State.zone, h]
  rfl

theorem HoldersOnly.latch {s t : State} (h : HoldersOnly s t) : t.groups.latch = s.groups.latch := by
  rw [h]

theorem holdersOnly_setHolder (g : Nat) (h : Option PointId) (s : State) : HoldersOnly s (setHolder g h s) := rfl

theorem holdersOnly_setFirstOut (id : PointId) (b : Bool) (s : State) : HoldersOnly s (setFirstOut id b s) := rfl

theorem holdersOnly_firstOutMark (r : Report) (s : State) : HoldersOnly s (firstOutMark r s) := by
  unfold firstOutMark
  dsimp only
  split
  · exact (holdersOnly_setFirstOut _ _ _).trans (holdersOnly_setHolder _ _ _)
  · exact .refl s

theorem holdersOnly_firstOutRelease (id : PointId) (s : State) : HoldersOnly s (firstOutRelease id s) := by
  refine foldl_keeps (P := HoldersOnly s) (releaseGroup id) (fun t g h => h.trans ?_) _ s (.refl s)
  unfold releaseGroup
  split
  · exact holdersOnly_setHolder _ _ _
  · exact .refl t

theorem holdersOnly_firstOutClaim (id : PointId) (s : State) : HoldersOnly s (firstOutClaim id s) := by
  unfold firstOutClaim
  dsimp only
  split
  · exact holdersOnly_setHolder _ _ _
  · split
    · exact .refl s
    · split
      · exact (holdersOnly_setFirstOut _ _ _).trans (holdersOnly_setHolder _ _ _)
      · exact holdersOnly_setFirstOut _ _ _

theorem holdersOnly_firstOutReplace (r : Report) (s : State) : HoldersOnly s (firstOutReplace r s) := by
  unfold firstOutReplace
  split
  · exact (holdersOnly_firstOutRelease _ _).trans (holdersOnly_firstOutClaim _ _)
  · exact .refl s

/-- Marking, claim and release leave the zone summaries, the demand count and the latch as the counts of the report left
them. -/
theorem holdersOnly_groupsFollow (r : Report) (s : State) : HoldersOnly (countsFollow r s) (groupsFollow r s) :=
  ((holdersOnly_firstOutMark _ _).trans (holdersOnly_firstOutReplace _ _)).trans (holdersOnly_firstOutRelease _ _)

/-- The whole report: the counts follow it in the state that the log and the Alarm List leave. -/
theorem holdersOnly_deliver (r : Report) (s : State) :
    HoldersOnly (countsFollow r (listFollow r (historyFollow r s))) (deliver r s) := by
  have hsame : (deliver r s).groups = (groupsFollow r (listFollow r (historyFollow r s))).groups := by
    rw [deliver, announceFollow_groups, newAlertFollow_groups]
  rw [HoldersOnly, hsame]
  exact holdersOnly_groupsFollow r _

/-! ### Events that change no trip cause (R55, R56) -/

theorem zoneFollow_latch (r : Report) (s : State) : (zoneFollow r s).groups.latch = s.groups.latch := by
  unfold zoneFollow
  split <;> rfl

theorem demandFollow_of_same {r : Report} {s : State}
    (h : tripCause s (s.zoneOf r.id.owner) r.id r.before = tripCause s (s.zoneOf r.id.owner) r.id r.after) :
    demandFollow r s = s := if_pos h

/-- A report whose record is a trip cause after it exactly if it was one before leaves the latch. -/
theorem deliver_latch {r : Report} {s : State}
    (h : tripCause s (s.zoneOf r.id.owner) r.id r.before = tripCause s (s.zoneOf r.id.owner) r.id r.after) :
    (deliver r s).groups.latch = s.groups.latch := by
  let u := listFollow r (historyFollow r s)
  have hpass : RecordsOnly s (zoneFollow r u) := (records_untilList r s).trans (records_zoneFollow r u)
  have hsame : demandFollow r (zoneFollow r u) = zoneFollow r u := demandFollow_of_same (by
    rw [hpass.zoneOf, tripCause_congr hpass.loader rfl, tripCause_congr hpass.loader rfl, h])
  calc (deliver r s).groups.latch
    _ = (countsFollow r u).groups.latch := (holdersOnly_deliver r s).latch
    _ = (zoneFollow r u).groups.latch := by rw [countsFollow, hsame]
    _ = u.groups.latch := zoneFollow_latch r u
    _ = s.groups.latch := by rw [(unlisted_untilList r s).groups]

/-- A reset changes neither the condition nor the shelving nor the attributes of a record. -/
theorem tripCause_applyReset (k : Nat) (s : State) (zone : Option Nat) (id : PointId) (r : PointRecord) :
    tripCause s zone id (applyReset k r).1 = tripCause s zone id r := by
  by_cases h : r.state = .ringback
  · rw [applyReset_ringback k h]
    rfl
  · rw [applyReset_ignored k h]

theorem recordEvent_reset_latch (id : PointId) (stamp : Stamp) (actor : Option Nat) (k : Nat) (s : State) :
    (recordEvent id .reset stamp actor (applyReset k) s).1.groups.latch = s.groups.latch :=
  deliver_latch (r := eventReport id .reset stamp actor (applyReset k) s) (tripCause_applyReset k _ _ _ _).symm

/-- A RESET-UPTO of the link leaves the latch of the station (R57). -/
theorem applyResetUpto_latch (k : Nat) (stamp limit : Stamp) (mask : ZoneMask) (s : State) :
    (applyResetUpto nothingInside k stamp mask limit s).1.groups.latch = s.groups.latch := by
  have hwalk := recordEvents_keeps (P := fun t => t.groups.latch = s.groups.latch) keptInside_nothing stamp.position
    .reset stamp (some k) (applyReset k) (fun id t h => (recordEvent_reset_latch id stamp (some k) k t).trans h) 0
    (s.selection resettable mask limit) rfl
  exact (congrArg GroupUnit.latch (unlisted_recordHistory _ _).groups).trans hwalk

/-! ### The local reset action (R57) -/

theorem released_of_unset {g : GroupUnit} (h : g.latch = false) : g.released = g := if_neg (by simp [h])

theorem released_of_idle {g : GroupUnit} (h : g.latch = true) (hd : g.demand = 0) :
    g.released = { g with latch := false } := if_pos ⟨h, hd⟩

theorem released_of_demand {g : GroupUnit} (hd : 0 < g.demand) : g.released = g := if_neg (by omega)

theorem localReset_groups (s : State) : (localReset s).groups = s.groups.released := by
  unfold localReset
  split
  · rename_i hd
    cases hl : s.groups.latch
    · rw [released_of_unset hl, State.mapGroups_groups, ← hl]
    · exact (released_of_idle hl hd).symm
  · rename_i hd
    exact (released_of_demand (Nat.pos_of_ne_zero hd)).symm

theorem offer_groups (n : Notice) (source : Source) (s : State) : (offer n source s).1.groups = s.groups := by
  rcases offer_cases n source s with ⟨_, e⟩ | ⟨_, e⟩ | ⟨_, _, e⟩ <;> rw [e] <;> rfl

theorem pressReset_groups (s : State) : (pressReset s).groups = s.groups := by
  unfold pressReset
  split
  · rfl
  · exact offer_groups _ _ s

theorem resetAction_groups (s : State) : (resetAction s).groups = s.groups.released := by
  unfold resetAction
  split
  · rw [pressReset_groups, localReset_groups]
  · exact localReset_groups s

theorem queueCommandNotice_groups (n : Notice) (s : State) : (queueCommandNotice n s).groups = s.groups := by
  unfold queueCommandNotice
  dsimp only
  split
  · exact offer_groups _ _ s
  · exact offer_groups _ _ s

/-- "RSTA" takes the local reset action whatever becomes of its notice. -/
theorem commandRsta_groups (inputs : Vector Byte 16) (s : State) :
    (commandRsta inputs s).groups = s.groups.released := by
  refine Eq.trans ?_ (localReset_groups s)
  unfold commandRsta whenRunning
  split
  · dsimp only
    split
    · exact queueCommandNotice_groups _ _
    · rfl
  · rfl

theorem exec_resetPress (s : State) : exec .resetPress s = whenUp s resetAction := rfl

theorem exec_rsta (s : State) : exec .rsta s = .next (writeCmdAt1D CommandCode.rsta.word s) := rfl

/-- A command from LISTENING on, written into the idle mailbox, is handled on the inputs that CMDDATA holds (R172, R174). -/
theorem writeCmdAt1D_starts {code : CommandCode} {s : State} (hidle : s.mailboxIdle = true) (hconf : s.configured = true) :
    writeCmdAt1D code.word s =
      handleCommand code s.port.data (takeCommand code (clearCmdPart (setTransaction (afterWrite 0x1D) s))) := by
  obtain ⟨hserves, hrunning⟩ : s.serves = true ∧ s.port.running.isNone = true := by
    simpa [State.mailboxIdle] using hidle
  have hfree : ¬ (clearCmdPart (setTransaction (afterWrite 0x1D) s)).port.running.isSome = true := by
    show ¬ s.port.running.isSome = true
    simpa using hrunning
  have hloaded : s.link.state.unconfigured = false := by simpa [State.configured] using hconf
  have hstart : ¬ ((clearCmdPart (setTransaction (afterWrite 0x1D) s)).link.state.unconfigured = true ∧ code ≠ .warm) := by
    show ¬ (s.link.state.unconfigured = true ∧ code ≠ .warm)
    simp [hloaded]
  rw [writeCmdAt1D, serve_serves _ _ hserves, writeCmd_word]
  exact (if_neg hfree).trans (if_neg hstart)

/-! ### A reset and a new cause (R57) -/

theorem latch_setDemand_localReset {s : State} (h : s.groups.demand = 0) :
    (setDemand 1 (localReset s)).groups.latch = true := by
  simp [setDemand, localReset, h]

theorem latch_localReset_setDemand {s : State} (h : s.groups.demand = 0) :
    (localReset (setDemand 1 s)).groups.latch = true := by
  simp [setDemand, localReset, h]

/-- Settles O11: the table by the lemmas about `released`, both requests by `localReset_groups`, the RESET-UPTO by
`applyResetUpto_latch`, the two orders each by its lemma. -/
theorem localResetReleasesTheLatch : Obligations.LocalResetReleasesTheLatch := by
  refine ⟨fun g => ⟨released_of_unset, released_of_idle, fun _ => released_of_demand⟩, fun s hup => ?_,
    fun s hidle hconf => ?_, applyResetUpto_latch, fun s h => ⟨latch_setDemand_localReset h, latch_localReset_setDemand h⟩⟩
  · exact ⟨_, (exec_resetPress s).trans (whenUp_of_up _ hup), resetAction_groups s⟩
  · refine ⟨_, exec_rsta s, ?_⟩
    rw [writeCmdAt1D_starts hidle hconf]
    exact commandRsta_groups _ _

end Sys2Proof.Machine
end

section
/-! The panel's outputs (R53, R143 to R147, R152, R153): the patterns of windows and zone lamps, the horn and the fault lamp,
as functions of the state. -/

namespace Sys2Proof.Machine

open Sys2Proof

/-! ### LAMP TEST (R152) -/

theorem windowPattern_lampTest {s : State} (w : Nat) (h : s.lampTesting = true) : windowPattern s w = .steady := if_pos h

theorem zoneLampPattern_lampTest {s : State} (z : Nat) (h : s.lampTesting = true) : zoneLampPattern s z = .steady :=
  if_pos h

theorem faultLampPattern_lampTest {s : State} (h : s.lampTesting = true) : faultLampPattern s = .steady := if_pos h

/-! ### Windows and zone lamps (R53, R143, R144) -/

theorem windowPattern_unmapped {s : State} {w : Nat} (h : s.lampTesting = false) (hw : s.windowMap w = none) :
    windowPattern s w = .off := by
  simp [windowPattern, h, hw]

theorem windowPattern_mapped {s : State} {w : Nat} {id : PointId} (h : s.lampTesting = false)
    (hw : s.windowMap w = some id) : windowPattern s w = recordPattern (s.record id) := by
  simp [windowPattern, h, hw]

section
variable {s : State} {z : Nat} (h : s.lampTesting = false)
include h

theorem zoneLampPattern_alerting (ha : 0 < (s.zone z).alerting) : zoneLampPattern s z = .fast := by
  simp [zoneLampPattern, h, ha]

theorem zoneLampPattern_lost (ha : (s.zone z).alerting = 0) (hl : 0 < (s.zone z).lost) : zoneLampPattern s z = .slow := by
  simp [zoneLampPattern, h, ha, hl]

theorem zoneLampPattern_standing (ha : (s.zone z).alerting = 0) (hl : (s.zone z).lost = 0)
    (hs : 0 < (s.zone z).standing) : zoneLampPattern s z = .steady := by
  simp [zoneLampPattern, h, ha, hl, hs]

theorem zoneLampPattern_quiet (ha : (s.zone z).alerting = 0) (hl : (s.zone z).lost = 0)
    (hs : (s.zone z).standing = 0) : zoneLampPattern s z = .off := by
  simp [zoneLampPattern, h, ha, hl, hs]

end

/-! ### After a start (R186) -/

theorem tableGet_replicate {α : Type} (n i : Nat) (x : α) : tableGet (Vector.replicate n x) i x = x := by
  unfold tableGet
  split
  · exact Vector.getElem_replicate _
  · rfl

theorem startValues_zone (l : History) (s : State) (z : Nat) : (startValues l s).zone z = ⟨0, 0, 0⟩ :=
  tableGet_replicate 8 _ _

/-- A start leaves no LAMP TEST, no image that maps a window, and empty zone summaries. -/
theorem startValues_dark (l : History) (s : State) (n : Nat) :
    windowPattern (startValues l s) n = .off ∧ zoneLampPattern (startValues l s) n = .off := by
  have hzone := startValues_zone l s n
  exact ⟨windowPattern_unmapped rfl rfl,
    zoneLampPattern_quiet rfl (by rw [hzone]) (by rw [hzone]) (by rw [hzone])⟩

/-! ### The horn (R147) -/

theorem calls_iff {s : State} {id : PointId} : s.calls id = true ↔
    inMask s.viewMask (s.zoneOf id.owner) = true
    ∧ ((s.record id).state = .alert ∨ (s.record id).state = .returned)
    ∧ ((s.record id).attrs.cls = .alarm ∨ (s.record id).attrs.cls = .shutdown)
    ∧ Stamp.earlier s.panel.silence ((s.record id).alert.getD stampZero) = true := by
  simp [State.calls, State.inView, and_assoc]

theorem hornSound_pulsed_iff {s : State} :
    hornSound s = .pulsed ↔ ∃ id ∈ allPoints, s.calls id = true ∧ (s.record id).attrs.cls = .shutdown := by
  have hany : allPoints.any (fun id => s.calls id && (s.record id).attrs.cls = .shutdown) = true ↔
      ∃ id ∈ allPoints, s.calls id = true ∧ (s.record id).attrs.cls = .shutdown := by
    simp
  rw [← hany]
  unfold hornSound
  split
  · rename_i hshutdown
    exact iff_of_true rfl hshutdown
  · rename_i hno
    split
    · exact iff_of_false nofun hno
    · exact iff_of_false nofun hno

/-- Every call sounds the horn, one of class SHUTDOWN before the others. -/
theorem hornSound_silent_iff {s : State} : hornSound s = .silent ↔ ∀ id ∈ allPoints, ¬ s.calls id = true := by
  have hnone : ¬ allPoints.any s.calls = true ↔ ∀ id ∈ allPoints, ¬ s.calls id = true := by
    simp
  rw [← hnone]
  unfold hornSound
  split
  · rename_i hshutdown
    obtain ⟨id, hid, hcalls⟩ := List.any_eq_true.mp hshutdown
    have hsome : allPoints.any s.calls = true := List.any_eq_true.mpr ⟨id, hid, (Bool.and_eq_true_iff.mp hcalls).1⟩
    exact iff_of_false nofun (not_not_intro hsome)
  · split
    · rename_i hsome
      exact iff_of_false nofun (not_not_intro hsome)
    · rename_i hno
      exact iff_of_true rfl hno

theorem hornSound_sounds_iff {s : State} : hornSound s ≠ .silent ↔ ∃ id ∈ allPoints, s.calls id = true := by
  rw [ne_eq, hornSound_silent_iff]
  constructor
  · intro h
    exact Decidable.byContradiction fun hno => h fun id hid hcalls => hno ⟨id, hid, hcalls⟩
  · rintro ⟨id, hid, hcalls⟩ h
    exact h id hid hcalls

theorem hornOutput_pulsed {s : State} (hup : s.up = true) (h : hornSound s = .pulsed) :
    hornOutput s = true ↔ s.panel.flash ≤ 499 := by
  simp only [hornOutput, hup, h, Bool.true_and, decide_eq_true_eq]
  omega

/-! ### The fault lamp (R153) -/

theorem mem_addresses {k : Nat} : k ∈ addresses ↔ 1 ≤ k ∧ k ≤ 24 := by
  simp only [addresses, Config.stations, List.mem_map, List.mem_range]
  constructor
  · rintro ⟨i, hi, rfl⟩
    omega
  · intro h
    exact ⟨k - 1, by omega, by omega⟩

theorem someLost_iff {s : State} : s.someLost = true ↔ ∃ k, 1 ≤ k ∧ k ≤ 24 ∧ (s.entry k).liveness = .lost := by
  simp only [State.someLost, List.any_eq_true, mem_addresses, decide_eq_true_eq, and_assoc]

section
variable {s : State} (h : s.lampTesting = false)
include h

theorem faultLampPattern_fast (hs : s.link.state = .conflict ∨ s.link.state = .mismatch ∨ s.link.state = .configFault) :
    faultLampPattern s = .fast := by
  rcases hs with hs | hs | hs <;> simp [faultLampPattern, h, hs]

theorem faultLampPattern_slow (hs : s.link.state = .listening ∨ s.link.state = .joining ∨ s.link.state = .isolated) :
    faultLampPattern s = .slow := by
  rcases hs with hs | hs | hs <;> simp [faultLampPattern, h, hs]

/-- In RUNNING and CONFIGURING the lamp tells of a LOST entry or an unlisted point. -/
theorem faultLampPattern_tables (hs : s.link.state = .running ∨ s.link.state = .configuring) :
    faultLampPattern s = if s.someLost = true ∨ 0 < s.list.unlistedCount then .steady else .off := by
  rcases hs with hs | hs <;> simp [faultLampPattern, h, hs]

end

/-- Settles O14: each row of the tables by its lemma, the start by `startValues_dark`, the horn by what makes it silent and
what makes it pulse. -/
theorem lampsAndHorn : Obligations.LampsAndHorn := by
  refine ⟨⟨fun _ => windowPattern_lampTest, fun _ _ => windowPattern_unmapped, fun _ _ _ => windowPattern_mapped,
      fun _ => zoneLampPattern_lampTest, startValues_dark, fun s z h => ⟨zoneLampPattern_alerting h,
        zoneLampPattern_lost h, zoneLampPattern_standing h, zoneLampPattern_quiet h⟩⟩,
    fun s => ?_, fun _ => hornSound_pulsed_iff, fun _ => hornOutput_pulsed,
    fun s => ⟨faultLampPattern_lampTest, fun h => ⟨faultLampPattern_fast h, faultLampPattern_slow h, fun hs => ?_⟩⟩⟩
  · simp only [← calls_iff]
    exact hornSound_sounds_iff
  · rw [faultLampPattern_tables h hs, ← someLost_iff]
    exact ⟨fun htold => if_pos htold, fun hquiet => if_neg hquiet⟩

end Sys2Proof.Machine
end

section
/-! First-out groups and zone summaries on one report (R46 to R48, R51): which reports mark, what a claim and the release
check make of the holders, and the counts of the owner's zone. -/

namespace Sys2Proof.Machine

open Sys2Proof

/-! ### Marking (R46) -/

theorem marksFirstOut_iff {r : Report} : marksFirstOut r = true ↔
    ((r.event = .raise ∧ r.outcome = .applied) ∨ (r.event = .unshelve ∧ r.outcome = .applied) ∨ r.event = .linkLostRaise)
      ∧ r.before.state ≠ .alert ∧ r.after.state = .alert := by
  unfold marksFirstOut
  cases r.event <;> simp [and_assoc]

/-- A mark in an ARMED group: the point holds the group with its flag set. -/
theorem firstOutMark_armed {r : Report} {s : State} (hm : marksFirstOut r = true) (hlow : 1 ≤ r.after.attrs.group)
    (hhigh : r.after.attrs.group ≤ 8) (h : s.holder r.after.attrs.group = none) :
    firstOutMark r s = setHolder r.after.attrs.group (some r.id) (setFirstOut r.id true s) :=
  if_pos ⟨hm, hlow, hhigh, h⟩

theorem firstOutMark_held {r : Report} {s : State} {q : PointId} (h : s.holder r.after.attrs.group = some q) :
    firstOutMark r s = s := by
  simp [firstOutMark, h]

theorem firstOutMark_silent {r : Report} {s : State} (h : marksFirstOut r = false ∨ r.after.attrs.group = 0) :
    firstOutMark r s = s := by
  rcases h with h | h <;> simp [firstOutMark, h]

theorem setFirstOut_record_same {id : PointId} (b : Bool) (s : State) (h : pointInRange id.owner id.point = true) :
    (setFirstOut id b s).record id = { s.record id with firstOut := b } := State.record_setRecord_same _ s h

/-- A point outside the table has no flag to clear. -/
theorem setFirstOut_clear (id : PointId) (s : State) : ((setFirstOut id false s).record id).firstOut = false := by
  by_cases h : pointInRange id.owner id.point = true
  · rw [setFirstOut_record_same false s h]
  · have hplace : ¬ pointIndex id < 408 := by simp [pointIndex, h, Config.records]
    simp [State.record, tableGet, hplace, PointRecord.reset]

/-! ### The claim of a replacement (R48) -/

theorem firstOutReplace_silent {r : Report} {s : State} (h : r.event ≠ .replace ∨ (s.record r.id).firstOut = false) :
    firstOutReplace r s = s := by
  rcases h with h | h <;> simp [firstOutReplace, h]

theorem firstOutReplace_claims {r : Report} {s : State} (he : r.event = .replace) (hf : (s.record r.id).firstOut = true) :
    firstOutReplace r s = firstOutClaim r.id (firstOutRelease r.id s) := if_pos ⟨he, hf⟩

section
variable {id q : PointId} {u : State} {g : Nat} (hg : (u.record id).attrs.group = g)
include hg

theorem firstOutClaim_free (h : u.holder g = none) : firstOutClaim id u = setHolder g (some id) u := by
  simp [firstOutClaim, hg, h]

theorem firstOutClaim_own (h : u.holder g = some id) : firstOutClaim id u = u := by
  simp [firstOutClaim, hg, h]

/-- The earlier alert stamp wins the group from its holder. -/
theorem firstOutClaim_wins (h : u.holder g = some q) (hq : q ≠ id)
    (hstamp : Stamp.earlier (u.alertOf id) (u.alertOf q) = true) :
    firstOutClaim id u = setHolder g (some id) (setFirstOut q false u) := by
  simp only [State.alertOf] at hstamp
  simp [firstOutClaim, hg, h, hq, hstamp]

theorem firstOutClaim_loses (h : u.holder g = some q) (hq : q ≠ id)
    (hstamp : Stamp.earlier (u.alertOf id) (u.alertOf q) = false) : firstOutClaim id u = setFirstOut id false u := by
  simp only [State.alertOf] at hstamp
  simp [firstOutClaim, hg, h, hq, hstamp]

end

/-- A point that carries the flag settles its claim on group g: a free group is its own, its own group stays so, and of two
claims the earlier alert stamp keeps group and flag. -/
theorem firstOutClaim_settles {id : PointId} {u : State} {g : Nat} (hf : (u.record id).firstOut = true)
    (hg : (u.record id).attrs.group = g) (hlow : 1 ≤ g) (hhigh : g ≤ 8) :
    (u.holder g = none → (firstOutClaim id u).holder g = some id ∧ (firstOutClaim id u).points = u.points)
    ∧ (u.holder g = some id → firstOutClaim id u = u)
    ∧ ∀ q, u.holder g = some q → q ≠ id →
      (Stamp.earlier (u.alertOf id) (u.alertOf q) = true → (firstOutClaim id u).holder g = some id
        ∧ ((firstOutClaim id u).record id).firstOut = true ∧ ((firstOutClaim id u).record q).firstOut = false)
      ∧ (Stamp.earlier (u.alertOf id) (u.alertOf q) = false → (firstOutClaim id u).holder g = some q
        ∧ ((firstOutClaim id u).record id).firstOut = false ∧ (firstOutClaim id u).record q = u.record q) := by
  refine ⟨fun hfree => ?_, firstOutClaim_own hg, fun q hheld hq => ⟨fun hstamp => ?_, fun hstamp => ?_⟩⟩
  · rw [firstOutClaim_free hg hfree]
    exact ⟨holder_setHolder_same _ u hlow hhigh, rfl⟩
  · rw [firstOutClaim_wins hg hheld hq hstamp]
    refine ⟨holder_setHolder_same _ _ hlow hhigh, ?_, ?_⟩
    · rw [setHolder_record, setFirstOut_record_other false u hq.symm, hf]
    · rw [setHolder_record, setFirstOut_clear]
  · rw [firstOutClaim_loses hg hheld hq hstamp]
    exact ⟨hheld, setFirstOut_clear id u, setFirstOut_record_other false u hq⟩

/-! ### The release check (R47) -/

/-- The group is held by the reported point, whose record no longer marks it. -/
abbrev Unmarked (id : PointId) (s : State) (g : Nat) : Prop :=
  s.holder g = some id ∧ ((s.record id).firstOut = false ∨ (s.record id).attrs.group ≠ g)

theorem releaseGroup_of_unmarked {id : PointId} {s : State} {g : Nat} (h : Unmarked id s g) :
    releaseGroup id s g = setHolder g none s := if_pos h

theorem releaseGroup_of_marked {id : PointId} {s : State} {g : Nat} (h : ¬ Unmarked id s g) : releaseGroup id s g = s :=
  if_neg h

/-- The check of one group leaves the others. -/
theorem releaseGroup_holder_other {id : PointId} {s : State} {g j : Nat} (hlow : 1 ≤ g) (hhigh : g ≤ 8) (hj : j ≠ g) :
    (releaseGroup id s j).holder g = s.holder g := by
  by_cases h : Unmarked id s j
  · rw [releaseGroup_of_unmarked h, holder_setHolder_other none s hlow hhigh hj]
  · rw [releaseGroup_of_marked h]

theorem foldl_releaseGroup_holder {id : PointId} {g : Nat} (hlow : 1 ≤ g) (hhigh : g ≤ 8) (gs : List Nat) (s : State) :
    (gs.foldl (releaseGroup id) s).holder g = if g ∈ gs ∧ Unmarked id s g then none else s.holder g := by
  induction gs generalizing s with
  | nil => simp
  | cons j gs ih =>
    rw [List.foldl_cons, ih]
    by_cases hj : j = g
    · subst hj
      by_cases h : Unmarked id s j
      · rw [releaseGroup_of_unmarked h]
        refine Eq.trans ?_ (if_pos ⟨List.mem_cons_self, h⟩).symm
        split
        · rfl
        · exact holder_setHolder_same none s hlow hhigh
      · rw [releaseGroup_of_marked h, if_neg (fun k => h k.2), if_neg (fun k => h k.2)]
    · have hmem : g ∈ j :: gs ↔ g ∈ gs := by simp [Ne.symm hj]
      simp only [Unmarked, releaseGroup_holder_other hlow hhigh hj, releaseGroup_record, hmem]

/-- The check arms exactly the groups that the point holds and no longer marks. -/
theorem firstOutRelease_holder {id : PointId} {s : State} {g : Nat} (hlow : 1 ≤ g) (hhigh : g ≤ 8) :
    (firstOutRelease id s).holder g = if Unmarked id s g then none else s.holder g := by
  have hmem : g ∈ [1, 2, 3, 4, 5, 6, 7, 8] := by
    simp only [List.mem_cons, List.not_mem_nil, or_false]
    omega
  rw [firstOutRelease, foldl_releaseGroup_holder hlow hhigh]
  simp only [hmem, true_and]

/-! ### Zone summaries (R50, R51) -/

theorem zone_modifyZone_same {z : Nat} (f : ZoneSummary → ZoneSummary) (s : State) (h : 1 ≤ z) (h8 : z ≤ 8) :
    (modifyZone z f s).zone z = f (s.zone z) :=
  tableGet_tableSet_same _ _ _ _ (placeOf_lt h h8)

theorem zone_modifyZone_other {y z : Nat} (f : ZoneSummary → ZoneSummary) (s : State) (h : 1 ≤ y) (h8 : y ≤ 8)
    (hy : y ≠ z) : (modifyZone z f s).zone y = s.zone y :=
  tableGet_tableSet_other _ _ _ _ _ (fun e => hy (placeOf_inj h h8 e).symm)

theorem zoneFollow_unzoned {r : Report} {s : State} (h : s.zoneOf r.id.owner = none) : zoneFollow r s = s := by
  simp [zoneFollow, h]

theorem zoneFollow_zoned {r : Report} {s : State} {z : Nat} (h : s.zoneOf r.id.owner = some z) :
    zoneFollow r s = modifyZone z (fun c =>
      { c with alerting := adjust (isAlerting r.before.state) (isAlerting r.after.state) c.alerting
               standing := adjust (isStanding r.before.state) (isStanding r.after.state) c.standing }) s := by
  simp [zoneFollow, h]

theorem isAlerting_iff (st : PointState) : isAlerting st = true ↔ st = .alert ∨ st = .returned := by
  simp [isAlerting]

theorem isStanding_iff (st : PointState) : isStanding st = true ↔ st = .acked ∨ st = .ringback := by
  simp [isStanding]

/-- A count adjusted by a change of state falls, rises or stays as the state leaves, enters or keeps to what is counted. -/
theorem adjust_follows {counted : PointState → Bool} {inside : PointState → Prop}
    (h : ∀ st, counted st = true ↔ inside st) (before after : PointState) (n : Nat) :
    let m := adjust (counted before) (counted after) n
    (inside before → ¬ inside after → m = n - 1) ∧ (¬ inside before → inside after → m = n + 1)
      ∧ ((inside before ↔ inside after) → m = n) := by
  simp only [← h]
  cases counted before <;> cases counted after <;> simp [adjust]

@[simp] theorem firstOutRelease_alertOf (id : PointId) (s : State) (q : PointId) :
    (firstOutRelease id s).alertOf q = s.alertOf q := by
  rw [State.alertOf, firstOutRelease_record, State.alertOf]

/-- Settles O55: marking by its lemmas, a replacement by `firstOutClaim_settles`, the release by `firstOutRelease_holder`,
the counts by `adjust_follows` in the summary that `zoneFollow_zoned` changes. -/
theorem groupsAndZonesFollowReports : Obligations.GroupsAndZonesFollowReports := by
  refine fun r s => ⟨?_, marksFirstOut_iff, firstOutMark_silent, firstOutReplace_silent, ?_,
    fun g hlow hhigh hheld => ⟨fun hlost => ?_, fun hf hg => ?_⟩, zoneFollow_unzoned, fun z hz hlow hhigh => ?_⟩
  · rintro hm g rfl hlow hhigh
    refine ⟨fun harmed hid => ?_, fun q hheld => firstOutMark_held hheld⟩
    rw [firstOutMark_armed hm hlow hhigh harmed]
    exact ⟨holder_setHolder_same _ _ hlow hhigh,
      congrArg PointRecord.firstOut (setFirstOut_record_same true s hid)⟩
  · intro he hf g hg hlow hhigh
    have hclaim := firstOutClaim_settles (u := firstOutRelease r.id s) (by simpa using hf) (by simpa using hg) hlow hhigh
    rw [firstOutReplace_claims he hf]
    simpa only [firstOutRelease_alertOf, firstOutRelease_record] using hclaim
  · rw [firstOutRelease_holder hlow hhigh, if_pos ⟨hheld, hlost⟩]
  · rw [firstOutRelease_holder hlow hhigh, if_neg (by simp [hf, hg]), hheld]
  · rw [zoneFollow_zoned hz, zone_modifyZone_same _ s hlow hhigh]
    exact ⟨adjust_follows isAlerting_iff _ _ _, adjust_follows isStanding_iff _ _ _, rfl,
      fun y hy hy8 hne => zone_modifyZone_other _ s hy hy8 hne⟩

end Sys2Proof.Machine
end

section
/-! A zone taken by a directory entry (R52, R55): the records and the LOST entry of the owner move between two summaries, and
its trip causes are counted under the new zone. -/

namespace Sys2Proof.Machine

open Sys2Proof

/-! ### The directory and the groups on the one side, the rest of the state on the other -/

/-- The second state differs from the first in the directory and in the Group and Zone Unit only. -/
def ZonesOnly (s t : State) : Prop := t = { s with directory := t.directory, groups := t.groups }

theorem ZonesOnly.refl (s : State) : ZonesOnly s s := rfl

theorem ZonesOnly.trans {s t u : State} (h : ZonesOnly s t) (k : ZonesOnly t u) : ZonesOnly s u :=
  Eq.trans k (by rw [h])

theorem ZonesOnly.points {s t : State} (h : ZonesOnly s t) : t.points = s.points := by rw [h]

theorem ZonesOnly.loader {s t : State} (h : ZonesOnly s t) : t.loader = s.loader := by rw [h]

theorem ZonesOnly.history {s t : State} (h : ZonesOnly s t) : t.history = s.history := by rw [h]

theorem ZonesOnly.record {s t : State} (h : ZonesOnly s t) (q : PointId) : t.record q = s.record q :=
  State.record_of_points h.points q

theorem zonesOnly_mapGroups (f : GroupUnit → GroupUnit) (s : State) : ZonesOnly s (s.mapGroups f) := rfl

theorem zonesOnly_modifyZone (z : Nat) (f : ZoneSummary → ZoneSummary) (s : State) : ZonesOnly s (modifyZone z f s) := rfl

theorem zonesOnly_modifyEntry (k : Nat) (f : DirEntry → DirEntry) (s : State) : ZonesOnly s (s.modifyEntry k f) := rfl

theorem State.entry_modifyEntry_other {j k : Nat} (f : DirEntry → DirEntry) (s : State) (h : 1 ≤ k) (hk : k ≤ 24)
    (hj : j ≠ k) : (s.modifyEntry k f).entry j = s.entry j :=
  tableGet_tableSet_other _ _ _ _ _ (fun e => hj (placeOf_inj h hk e.symm))

theorem zone_modifyZone {y z : Nat} (f : ZoneSummary → ZoneSummary) (s : State) (h : 1 ≤ y) (h8 : y ≤ 8) :
    (modifyZone z f s).zone y = if y = z then f (s.zone y) else s.zone y := by
  split
  · rename_i hy
    rw [← hy, zone_modifyZone_same f s h h8]
  · rename_i hy
    exact zone_modifyZone_other f s h h8 hy

/-! ### What an owner adds to the summary of its zone -/

theorem countStates_of_points {s t : State} (h : t.points = s.points) (k : Nat) (counted : PointState → Bool) :
    countStates t k counted = countStates s k counted := by
  simp only [countStates, State.record_of_points h]

theorem lostCount_of_directory {s t : State} (h : t.directory = s.directory) (k : Nat) :
    lostCount t k = lostCount s k := by
  simp only [lostCount, State.entry_of_directory h]

theorem leaveZone_directory (k : Nat) (s : State) : (leaveZone k s).directory = s.directory := by
  unfold leaveZone
  split <;> rfl

theorem leaveZone_demand (k : Nat) (s : State) : (leaveZone k s).groups.demand = s.groups.demand := by
  unfold leaveZone
  split <;> rfl

theorem zonesOnly_leaveZone (k : Nat) (s : State) : ZonesOnly s (leaveZone k s) := by
  unfold leaveZone
  split
  · exact zonesOnly_modifyZone _ _ s
  · exact .refl s

theorem leaveZone_zone {k y : Nat} {s : State} (h : 1 ≤ y) (h8 : y ≤ 8) : (leaveZone k s).zone y =
    if s.zoneOf k = some y then ⟨(s.zone y).alerting - countStates s k isAlerting,
      (s.zone y).standing - countStates s k isStanding, (s.zone y).lost - lostCount s k⟩
    else s.zone y := by
  unfold leaveZone
  split
  · rename_i z hz
    rw [zone_modifyZone _ s h h8]
    simp only [hz, Option.some.injEq, eq_comm]
  · rename_i hz
    simp [hz]

theorem joinZone_zone {k y z : Nat} {s : State} (h : 1 ≤ y) (h8 : y ≤ 8) : (joinZone k z s).zone y =
    if y = z then ⟨(s.zone y).alerting + countStates s k isAlerting,
      (s.zone y).standing + countStates s k isStanding, (s.zone y).lost + lostCount s k⟩
    else s.zone y :=
  zone_modifyZone _ s h h8

/-! ### Trip causes of one owner and of the others (R54, R55) -/

theorem mem_allPoints_iff {id : PointId} : id ∈ allPoints ↔ pointInRange id.owner id.point = true := by
  refine ⟨fun h => ?_, mem_allPoints⟩
  obtain ⟨i, hi, rfl⟩ := List.mem_map.mp h
  have hi := List.mem_range.mp hi
  simp only [Config.records] at hi
  simp only [pointInRange_iff, pointAtIndex, Config.pointsPerOwner]
  omega

theorem mem_pointsOf {k n : Nat} {id : PointId} : id ∈ pointsOf k n ↔ id.owner = k ∧ id.point < n := by
  simp only [pointsOf, List.mem_map, List.mem_range]
  constructor
  · rintro ⟨p, hp, rfl⟩
    exact ⟨rfl, hp⟩
  · rintro ⟨rfl, hp⟩
    exact ⟨id.point, hp, rfl⟩

theorem pointsOf_nodup (k n : Nat) : (pointsOf k n).Nodup :=
  List.Pairwise.map _ (fun _ _ hne e => hne (congrArg PointId.point e)) List.nodup_range

/-- The points of the table that an owner has are its 17. -/
theorem allPoints_of_owner {k : Nat} (h : 1 ≤ k) (hk : k ≤ 24) :
    (allPoints.filter (fun id => id.owner = k)).Perm (pointsOf k 17) := by
  refine (List.perm_ext_iff_of_nodup (allPoints_nodup.filter _) (pointsOf_nodup k 17)).mpr fun id => ?_
  simp only [List.mem_filter, mem_allPoints_iff, pointInRange_iff, mem_pointsOf, decide_eq_true_eq]
  omega

theorem tripCause_linkLost (s : State) (zone : Option Nat) (k : Nat) (r : PointRecord) :
    tripCause s zone ⟨k, 16⟩ r = false := by
  simp [tripCause]

/-- The trip causes of every owner but one. -/
def causesOfOthers (s : State) (k : Nat) : Nat :=
  (allPoints.filter (fun id => !decide (id.owner = k))).countP
    (fun id => tripCause s (s.zoneOf id.owner) id (s.record id))

/-- The demand of the table is that of one owner and that of the others. -/
theorem causes_of_owner {k : Nat} (s : State) (h : 1 ≤ k) (hk : k ≤ 24) :
    s.causes.length = countCauses s k (s.zoneOf k) + causesOfOthers s k := by
  have howner : (allPoints.filter (fun id => id.owner = k)).countP
      (fun id => tripCause s (s.zoneOf id.owner) id (s.record id)) = countCauses s k (s.zoneOf k) := by
    have hfield : pointsOf k 17 = pointsOf k 16 ++ [⟨k, 16⟩] := by
      simp [pointsOf, List.range_succ]
    rw [(allPoints_of_owner h hk).countP_eq, hfield, List.countP_append, List.countP_singleton, tripCause_linkLost]
    refine List.countP_congr fun id hid => ?_
    rw [(mem_pointsOf.mp hid).1]
  rw [causes_length, List.countP_eq_countP_filter_add _ _ (fun id => decide (id.owner = k)), howner]
  rfl

theorem countCauses_congr {s t : State} (hl : t.loader = s.loader) (hp : t.points = s.points) (k : Nat)
    (zone : Option Nat) : countCauses t k zone = countCauses s k zone :=
  List.countP_congr fun id _ => by rw [tripCause_congr hl (congrArg PointRecord.bare (State.record_of_points hp id))]

theorem causesOfOthers_congr {s t : State} {k : Nat} (hl : t.loader = s.loader) (hp : t.points = s.points)
    (hz : ∀ j, j ≠ k → t.zoneOf j = s.zoneOf j) : causesOfOthers t k = causesOfOthers s k := by
  refine List.countP_congr fun id hid => ?_
  have hother : id.owner ≠ k := by simpa using (List.mem_filter.mp hid).2
  rw [tripCause_congr hl (congrArg PointRecord.bare (State.record_of_points hp id)), hz _ hother]

/-- The causes of an owner are counted under the new zone in place of the old one. -/
theorem moveCauses_demand {k : Nat} {old new : Option Nat} {s : State} (h : countCauses s k old ≤ s.groups.demand) :
    (moveCauses k old new s).groups.demand = s.groups.demand - countCauses s k old + countCauses s k new := by
  unfold moveCauses
  split
  · omega
  · rfl

theorem moveCauses_zone (k : Nat) (old new : Option Nat) (s : State) (y : Nat) :
    (moveCauses k old new s).zone y = s.zone y := by
  unfold moveCauses
  split <;> rfl

theorem moveCauses_directory (k : Nat) (old new : Option Nat) (s : State) :
    (moveCauses k old new s).directory = s.directory := by
  unfold moveCauses
  split <;> rfl

theorem zonesOnly_moveCauses (k : Nat) (old new : Option Nat) (s : State) : ZonesOnly s (moveCauses k old new s) := by
  unfold moveCauses
  split
  · exact .refl s
  · exact zonesOnly_mapGroups _ s

/-! ### The zone taken -/

/-- The records and the LOST entry of owner k moved to zone z, which its entry holds from then on. -/
def rezone (k z : Nat) (s : State) : State :=
  (joinZone k z (leaveZone k s)).modifyEntry k (fun e => { e with zone := some z })

theorem takeZone_held {k z : Nat} {s : State} (h : s.zoneOf k = some z) : takeZone k z s = s := if_pos h

theorem takeZone_new {k z : Nat} {s : State} (h : s.zoneOf k ≠ some z) :
    takeZone k z s = moveCauses k (s.zoneOf k) (some z) (rezone k z s) := if_neg h

theorem zonesOnly_rezone (k z : Nat) (s : State) : ZonesOnly s (rezone k z s) :=
  ((zonesOnly_leaveZone k s).trans (zonesOnly_modifyZone _ _ _)).trans (zonesOnly_modifyEntry _ _ _)

theorem zonesOnly_takeZone (k z : Nat) (s : State) : ZonesOnly s (takeZone k z s) := by
  unfold takeZone
  split
  · exact .refl s
  · exact (zonesOnly_rezone k z s).trans (zonesOnly_moveCauses _ _ _ _)

section
variable {k z : Nat} (s : State)

theorem rezone_entry (hk : 1 ≤ k) (hk24 : k ≤ 24) : (rezone k z s).entry k = { s.entry k with zone := some z } := by
  have hleft : (joinZone k z (leaveZone k s)).entry k = s.entry k :=
    State.entry_of_directory (leaveZone_directory k s) k
  rw [rezone, State.entry_modifyEntry_same _ _ hk hk24, hleft]

theorem rezone_entry_other {j : Nat} (hk : 1 ≤ k) (hk24 : k ≤ 24) (hj : j ≠ k) :
    (rezone k z s).entry j = s.entry j :=
  (State.entry_modifyEntry_other _ _ hk hk24 hj).trans (State.entry_of_directory (leaveZone_directory k s) j)

theorem takeZone_entry (hk : 1 ≤ k) (hk24 : k ≤ 24) : (takeZone k z s).entry k = { s.entry k with zone := some z } := by
  by_cases h : s.zoneOf k = some z
  · rw [takeZone_held h, ← h]
    rfl
  · rw [takeZone_new h, State.entry_of_directory (moveCauses_directory _ _ _ _), rezone_entry s hk hk24]

variable {s}

theorem takeZone_zone (h : s.zoneOf k ≠ some z) {y : Nat} (hy : 1 ≤ y) (hy8 : y ≤ 8) : (takeZone k z s).zone y =
    if y = z then ⟨(s.zone y).alerting + countStates s k isAlerting,
      (s.zone y).standing + countStates s k isStanding, (s.zone y).lost + lostCount s k⟩
    else if s.zoneOf k = some y then ⟨(s.zone y).alerting - countStates s k isAlerting,
      (s.zone y).standing - countStates s k isStanding, (s.zone y).lost - lostCount s k⟩
    else s.zone y := by
  have hpoints := (zonesOnly_leaveZone k s).points
  have hjoin : (takeZone k z s).zone y = (joinZone k z (leaveZone k s)).zone y := by
    rw [takeZone_new h, moveCauses_zone]
    rfl
  rw [hjoin, joinZone_zone hy hy8, leaveZone_zone hy hy8, countStates_of_points hpoints, countStates_of_points hpoints,
    lostCount_of_directory (leaveZone_directory k s)]
  by_cases hyz : y = z
  · subst hyz
    simp only [if_neg h]
  · simp only [if_neg hyz]

/-- A demand count that was the number of trip causes still is when an entry has taken its zone (R55). -/
theorem takeZone_demand (hk : 1 ≤ k) (hk24 : k ≤ 24) (h : s.zoneOf k ≠ some z) (hd : s.groups.demand = s.causes.length) :
    (takeZone k z s).groups.demand = (takeZone k z s).causes.length := by
  let u := rezone k z s
  have hzones := zonesOnly_rezone k z s
  have htake := zonesOnly_takeZone k z s
  have hcount : ∀ zone, countCauses u k zone = countCauses s k zone := countCauses_congr hzones.loader hzones.points k
  have hdemand : u.groups.demand = s.groups.demand := leaveZone_demand k s
  have hcauses := causes_of_owner s hk hk24
  have hnew : (takeZone k z s).zoneOf k = some z := by rw [State.zoneOf, takeZone_entry s hk hk24]
  have hothers : ∀ j, j ≠ k → (takeZone k z s).zoneOf j = s.zoneOf j := fun j hj => by
    rw [State.zoneOf, takeZone_new h, State.entry_of_directory (moveCauses_directory _ _ _ _),
      rezone_entry_other s hk hk24 hj]
    rfl
  calc (takeZone k z s).groups.demand
    _ = u.groups.demand - countCauses u k (s.zoneOf k) + countCauses u k (some z) := by
      rw [takeZone_new h]
      exact moveCauses_demand (by rw [hcount, hdemand]; omega)
    _ = countCauses s k (some z) + causesOfOthers s k := by
      rw [hcount, hcount, hdemand]
      omega
    _ = (takeZone k z s).causes.length := by
      rw [causes_of_owner _ hk hk24, hnew, countCauses_congr htake.loader htake.points,
        causesOfOthers_congr htake.loader htake.points hothers]

end

end Sys2Proof.Machine
end

section
/-! The return of a station from LOST (R21, R97, R101 to R105): a SLOT frame up to its application, what its header makes of
the entry and of the link-lost point, and what the comparison that follows leaves alone. -/

namespace Sys2Proof.Machine

open Sys2Proof

/-! ### The link-lost clear on its record (R9, R21) -/

@[simp] theorem enterNormal_active (r : PointRecord) : (enterNormal r).active = r.active := by
  unfold enterNormal
  split <;> rfl

@[simp] theorem enterNormal_occurrence (r : PointRecord) : (enterNormal r).occurrence = r.occurrence := by
  unfold enterNormal
  split <;> rfl

@[simp] theorem settleSequence_active (r : PointRecord) : (settleSequence r).active = r.active := by
  unfold settleSequence
  split <;> simp

@[simp] theorem settleSequence_occurrence (r : PointRecord) : (settleSequence r).occurrence = r.occurrence := by
  unfold settleSequence
  split <;> simp

theorem clearSequence_active (r : PointRecord) : (clearSequence r).active = false := by
  unfold clearSequence
  split <;> simp

theorem clearSequence_occurrence (r : PointRecord) : (clearSequence r).occurrence = r.occurrence := by
  unfold clearSequence
  split <;> simp

theorem applyLinkLostClear_of_active {r : PointRecord} (h : r.active = true) :
    applyLinkLostClear r = (clearSequence r, .applied) := if_pos h

theorem applyLinkLostClear_of_inactive {r : PointRecord} (h : r.active = false) :
    applyLinkLostClear r = (r, .duplicate) := if_neg (by simp [h])

theorem applyLinkLostClear_active (r : PointRecord) : (applyLinkLostClear r).1.active = false := by
  cases h : r.active
  · rw [applyLinkLostClear_of_inactive h, h]
  · rw [applyLinkLostClear_of_active h, clearSequence_active]

theorem applyLinkLostClear_occurrence (r : PointRecord) : (applyLinkLostClear r).1.occurrence = r.occurrence := by
  cases h : r.active
  · rw [applyLinkLostClear_of_inactive h]
  · rw [applyLinkLostClear_of_active h, clearSequence_occurrence]

theorem applyLinkLostClear_alert {r : PointRecord} (ha : r.active = true) (h : r.state = .alert) :
    applyLinkLostClear r = ({ r with active := false, state := .returned }, .applied) := by
  rw [applyLinkLostClear_of_active ha]
  simp [clearSequence, h]

theorem applyLinkLostClear_acked {r : PointRecord} (ha : r.active = true) (h : r.state = .acked)
    (hs : r.attrs.seq = .manualReset) :
    applyLinkLostClear r = ({ r with active := false, state := .ringback }, .applied) := by
  rw [applyLinkLostClear_of_active ha]
  simp [clearSequence, settleSequence, h, hs]

theorem applyLinkLostClear_normal {r : PointRecord} (h : r.state = .normal) :
    (applyLinkLostClear r).1.state = .normal := by
  cases ha : r.active
  · rw [applyLinkLostClear_of_inactive ha, h]
  · rw [applyLinkLostClear_of_active ha]
    simp [clearSequence, h]

/-! ### Lost counts under a report (R51) -/

theorem modifyZone_lost {f : ZoneSummary → ZoneSummary} (hf : ∀ c, (f c).lost = c.lost) (z : Nat) (s : State) (y : Nat) :
    ((modifyZone z f s).zone y).lost = (s.zone y).lost := by
  show (tableGet (tableSet s.groups.zones (placeOf z 8) _) (placeOf y 8) _).lost = _
  rw [tableGet_tableSet]
  split
  · rename_i h
    rw [hf, State.zone, h.1]
  · rfl

theorem countsFollow_lost (r : Report) (s : State) (z : Nat) : ((countsFollow r s).zone z).lost = (s.zone z).lost := by
  have hdemand : ∀ t : State, (demandFollow r t).zone z = t.zone z := fun t => by
    unfold demandFollow
    dsimp only
    split <;> rfl
  rw [countsFollow, hdemand]
  unfold zoneFollow
  split
  · rfl
  · exact modifyZone_lost (fun _ => by rfl) _ s z

theorem deliver_lost (r : Report) (s : State) (z : Nat) : ((deliver r s).zone z).lost = (s.zone z).lost := by
  rw [(holdersOnly_deliver r s).zone, countsFollow_lost, State.zone, (unlisted_untilList r s).groups, State.zone]

/-! ### The link-lost clear of an owner -/

section
variable (k : Nat) (stamp : Stamp) (s : State)

/-- The report of the link-lost clear of owner k. -/
def linkLostReport : Report := eventReport ⟨k, 16⟩ .linkLostClear stamp none applyLinkLostClear s

theorem linkLostClear_eq : linkLostClear k stamp s =
    deliver (linkLostReport k stamp s) (s.setRecord ⟨k, 16⟩ (applyLinkLostClear (s.record ⟨k, 16⟩)).1) := rfl

theorem linkLostClear_same (hk : 1 ≤ k) (hk24 : k ≤ 24) :
    ((linkLostClear k stamp s).record ⟨k, 16⟩).bare = (applyLinkLostClear (s.record ⟨k, 16⟩)).1.bare :=
  recordEvent_bare_same _ _ _ _ s (pointInRange_iff.mpr ⟨hk, hk24, Nat.le_refl 16⟩)

theorem linkLostClear_other {q : PointId} (hq : q ≠ ⟨k, 16⟩) :
    ((linkLostClear k stamp s).record q).unplaced = (s.record q).unplaced := by
  rw [linkLostClear_eq, deliver_unplaced _ (by simp [marksFirstOut, linkLostReport, eventReport])
    (by simp [linkLostReport, eventReport]),
    State.record_setRecord_other _ s hq]

/-- A link-lost clear makes no entry: none of its kind, and no point enters the Alarm List. -/
theorem linkLostClear_history : (linkLostClear k stamp s).history = s.history := by
  have hpoint : pointEntry (linkLostReport k stamp s) = none := pointEntry_of_unlogged nofun (by
    simp [linkLostReport, eventReport])
  have hstale : staleEntry (linkLostReport k stamp s) = none := staleEntry_of_not_stale nofun
  have hlist : ∀ t, (listFollow (linkLostReport k stamp s) t).history = t.history := fun t => by
    by_cases h : (s.record ⟨k, 16⟩).state = .normal
    · have hafter : (linkLostReport k stamp s).after.state = .normal := applyLinkLostClear_normal h
      rw [listFollow_of_silent (iff_of_true h hafter) (.inl h)]
    · exact listFollow_history_of_annunciated t h
  rw [linkLostClear_eq, deliver_history, hlist, historyFollow_silent _ hpoint hstale]
  rfl

theorem linkLostClear_lost (z : Nat) : ((linkLostClear k stamp s).zone z).lost = (s.zone z).lost :=
  deliver_lost _ _ z

end

/-! ### An entry leaves LOST (R104) -/

/-- The JOINED entry of an owner that returns (R158). -/
def joinedEntry (k : Nat) (stamp : Stamp) (occurrence : Nat) : HistoryEntry :=
  { stamp := stamp, kind := .joined, station := k, point := some 16, occurrence := some occurrence }

/-- What the return of a LOST owner k in zone z leaves: a LIVE entry, STAJOIN, the link-lost point cleared, the other records
but for their unlisted flags, the JOINED entry, the lost count of the zone one lower. -/
structure Returned (k z : Nat) (stamp : Stamp) (s t : State) : Prop where
  live : (t.entry k).liveness = .live
  stajoin : t.hasEvent .stajoin = true
  record : (t.record ⟨k, 16⟩).bare = (applyLinkLostClear (s.record ⟨k, 16⟩)).1.bare
  others : ∀ q, q ≠ ⟨k, 16⟩ → (t.record q).unplaced = (s.record q).unplaced
  history : t.history = s.history.append (joinedEntry k stamp (s.record ⟨k, 16⟩).occurrence)
  lost : 1 ≤ z → z ≤ 8 → s.zoneOf k = some z → (t.zone z).lost = (s.zone z).lost - 1

/-- The return speaks of any state with the same records and log, and with the same summaries where the zone is its own. -/
theorem Returned.of_same {k z : Nat} {stamp : Stamp} {s t u : State} (h : Returned k z stamp u t)
    (hp : u.points = s.points) (hh : u.history = s.history)
    (hz : s.zoneOf k = some z → u.zoneOf k = some z ∧ u.groups = s.groups) : Returned k z stamp s t := by
  have hrec := State.record_of_points hp
  obtain ⟨hlive, hstajoin, hrecord, hothers, hhistory, hlost⟩ := h
  simp only [hrec] at hrecord hothers hhistory
  refine ⟨hlive, hstajoin, hrecord, hothers, hh ▸ hhistory, fun h1 h8 hzone => ?_⟩
  obtain ⟨huzone, hgroups⟩ := hz hzone
  rw [hlost h1 h8 huzone, State.zone, hgroups, State.zone]

/-- The entry of k LIVE, and the lost count of its zone lowered. -/
def makeLive (k : Nat) (s : State) : State :=
  adjustLost k false (s.modifyEntry k (fun e => { e with liveness := .live }))

section
variable {k : Nat} {s : State}

theorem adjustLost_directory (b : Bool) : (adjustLost k b s).directory = s.directory := by
  unfold adjustLost
  split <;> rfl

theorem zonesOnly_makeLive : ZonesOnly s (makeLive k s) := by
  unfold makeLive adjustLost
  split
  · exact zonesOnly_modifyEntry _ _ s
  · exact (zonesOnly_modifyEntry _ _ s).trans (zonesOnly_modifyZone _ _ _)

theorem makeLive_entry (hk : 1 ≤ k) (hk24 : k ≤ 24) :
    (makeLive k s).entry k = { s.entry k with liveness := .live } :=
  (State.entry_of_directory (adjustLost_directory false) k).trans (State.entry_modifyEntry_same _ s hk hk24)

theorem makeLive_lost (hk : 1 ≤ k) (hk24 : k ≤ 24) {z : Nat} (h : 1 ≤ z) (h8 : z ≤ 8) (hz : s.zoneOf k = some z) :
    ((makeLive k s).zone z).lost = (s.zone z).lost - 1 := by
  have hzone : (s.modifyEntry k (fun e => { e with liveness := .live })).zoneOf k = some z := by
    rw [State.zoneOf, State.entry_modifyEntry_same _ s hk hk24]
    exact hz
  rw [makeLive, adjustLost, hzone]
  exact congrArg ZoneSummary.lost (zone_modifyZone_same _ _ h h8)

theorem leaveLost_eq (k : Nat) (stamp : Stamp) (s : State) : leaveLost k stamp s =
    setEvent .stajoin (recordHistory
      (joinedEntry k stamp ((linkLostClear k stamp (makeLive k s)).record ⟨k, 16⟩).occurrence)
      (linkLostClear k stamp (makeLive k s))) := rfl

theorem returned_leaveLost (z : Nat) (stamp : Stamp) (hk : 1 ≤ k) (hk24 : k ≤ 24) :
    Returned k z stamp s (leaveLost k stamp s) := by
  let u := makeLive k s
  let v := linkLostClear k stamp u
  have hrec : ∀ q, u.record q = s.record q := zonesOnly_makeLive.record
  have hself : (v.record ⟨k, 16⟩).bare = (applyLinkLostClear (s.record ⟨k, 16⟩)).1.bare := by
    rw [linkLostClear_same k stamp u hk hk24, hrec]
  have hocc : (v.record ⟨k, 16⟩).occurrence = (s.record ⟨k, 16⟩).occurrence :=
    (PointRecord.eq_of_bare (·.occurrence) hself).trans (applyLinkLostClear_occurrence _)
  rw [leaveLost_eq]
  refine ⟨?_, hasEvent_setEvent_same _ _, ?_, fun q hq => ?_, ?_, fun h h8 hz => ?_⟩
  · have hdir : (recordHistory (joinedEntry k stamp (v.record ⟨k, 16⟩).occurrence) v).directory = u.directory :=
      ((records_linkLostClear k stamp u).trans (records_recordHistory _ _)).directory
    exact congrArg DirEntry.liveness ((State.entry_of_directory hdir k).trans (makeLive_entry hk hk24))
  · rw [State.record_setEvent, State.record_recordHistory]
    exact hself
  · rw [State.record_setEvent, State.record_recordHistory, linkLostClear_other k stamp u hq, hrec]
  · rw [setEvent_history, recordHistory_history, linkLostClear_history, zonesOnly_makeLive.history, hocc]
  · have hgroups : (setEvent .stajoin (recordHistory (joinedEntry k stamp (v.record ⟨k, 16⟩).occurrence) v)).groups =
        v.groups := (unlisted_recordHistory _ v).groups
    rw [State.zone, hgroups]
    exact (linkLostClear_lost k stamp u z).trans (makeLive_lost hk hk24 h h8 hz)

theorem Returned.joinWaitSet {z : Nat} {stamp : Stamp} {t : State} (h : Returned k z stamp s t) (hk : 1 ≤ k)
    (hk24 : k ≤ 24) : Returned k z stamp s (joinWaitSet k t) := by
  obtain ⟨hlive, hstajoin, hrecord, hothers, hhistory, hlost⟩ := h
  unfold Machine.joinWaitSet
  split
  · refine ⟨?_, hstajoin, hrecord, hothers, hhistory, hlost⟩
    rw [State.entry_modifyEntry_same _ t hk hk24]
    exact hlive
  · exact ⟨hlive, hstajoin, hrecord, hothers, hhistory, hlost⟩

end

/-! ### The header of a SLOT frame (R52, R101, R102) -/

/-- The entry of the sender with the frame's cycle number, digest and zone. -/
def takeHeader (f : SlotFrame) (c : Nat) (s : State) : State :=
  let s1 := s.modifyEntry f.sender (fun e => { e with lastCycle := some c, digest := some f.digest })
  if 1 ≤ f.zone ∧ f.zone ≤ 8 then takeZone f.sender f.zone s1 else s1

theorem directoryHeader_lost {f : SlotFrame} {c : Nat} {s : State} (h : ((takeHeader f c s).entry f.sender).liveness = .lost) :
    directoryHeader f c s = joinWaitSet f.sender (leaveLost f.sender ⟨c, f.sender, 0⟩ (takeHeader f c s)) := by
  unfold takeHeader at h
  unfold directoryHeader takeHeader
  dsimp only at h ⊢
  simp only [h]

section
variable {f : SlotFrame} {c : Nat} {s : State}

theorem zonesOnly_takeHeader : ZonesOnly s (takeHeader f c s) := by
  have hentry := zonesOnly_modifyEntry f.sender (fun e => { e with lastCycle := some c, digest := some f.digest }) s
  unfold takeHeader
  dsimp only
  split
  · exact hentry.trans (zonesOnly_takeZone _ _ _)
  · exact hentry

theorem takeHeader_liveness (hk : 1 ≤ f.sender) (hk24 : f.sender ≤ 24) :
    ((takeHeader f c s).entry f.sender).liveness = (s.entry f.sender).liveness := by
  unfold takeHeader
  dsimp only
  split
  · rw [takeZone_entry _ hk hk24, State.entry_modifyEntry_same _ s hk hk24]
  · rw [State.entry_modifyEntry_same _ s hk hk24]

/-- A frame with the zone that the entry holds leaves the summaries. -/
theorem takeHeader_same_zone (hk : 1 ≤ f.sender) (hk24 : f.sender ≤ 24) (hz : s.zoneOf f.sender = some f.zone) :
    (takeHeader f c s).zoneOf f.sender = some f.zone ∧ (takeHeader f c s).groups = s.groups := by
  have hzone : (s.modifyEntry f.sender (fun e => { e with lastCycle := some c, digest := some f.digest })).zoneOf f.sender =
      some f.zone := by
    rw [State.zoneOf, State.entry_modifyEntry_same _ s hk hk24]
    exact hz
  unfold takeHeader
  dsimp only
  rw [takeZone_held hzone, ite_self]
  exact ⟨hzone, rfl⟩

/-- The header of a SLOT frame of a LOST sender brings it back. -/
theorem returned_directoryHeader (hk : 1 ≤ f.sender) (hk24 : f.sender ≤ 24) (h : (s.entry f.sender).liveness = .lost) :
    Returned f.sender f.zone ⟨c, f.sender, 0⟩ s (directoryHeader f c s) := by
  have hzones : ZonesOnly s (takeHeader f c s) := zonesOnly_takeHeader
  rw [directoryHeader_lost ((takeHeader_liveness hk hk24).trans h)]
  exact ((returned_leaveLost f.zone _ hk hk24).joinWaitSet hk hk24).of_same hzones.points hzones.history
    (takeHeader_same_zone hk hk24)

end

/-! ### What a comparison leaves alone (R105, R126 to R129) -/

/-- Liveness, log and lost counts are as before, records too but for owner-lost and the flags of other blocks; a flag of
EVENTS that was set is set. -/
structure Compared (s t : State) : Prop where
  liveness : ∀ k, (t.entry k).liveness = (s.entry k).liveness
  plain : ∀ q, (t.record q).plain = (s.record q).plain
  history : t.history = s.history
  lost : ∀ z, (t.zone z).lost = (s.zone z).lost
  flags : ∀ e, s.hasEvent e = true → t.hasEvent e = true

theorem Compared.refl (s : State) : Compared s s := ⟨fun _ => rfl, fun _ => rfl, rfl, fun _ => rfl, fun _ h => h⟩

theorem Compared.trans {s t u : State} (h : Compared s t) (k : Compared t u) : Compared s u :=
  ⟨fun j => (k.liveness j).trans (h.liveness j), fun q => (k.plain q).trans (h.plain q), k.history.trans h.history,
    fun z => (k.lost z).trans (h.lost z), fun e he => k.flags e (h.flags e he)⟩

theorem compared_setEvent (e : Event) (s : State) : Compared s (setEvent e s) :=
  ⟨fun _ => rfl, fun _ => rfl, rfl, fun _ => rfl, fun e' h => hasEvent_setEvent_of e' e s h⟩

theorem compared_mapAgreement (f : Agreement → Agreement) (s : State) : Compared s (s.mapAgreement f) :=
  ⟨fun _ => rfl, fun _ => rfl, rfl, fun _ => rfl, fun _ h => h⟩

theorem compared_modifyEntry {f : DirEntry → DirEntry} (hf : ∀ e, (f e).liveness = e.liveness) (k : Nat) (s : State) :
    Compared s (s.modifyEntry k f) := by
  refine ⟨fun j => ?_, fun _ => rfl, rfl, fun _ => rfl, fun _ h => h⟩
  show (tableGet (tableSet s.directory _ _) _ _).liveness = _
  rw [tableGet_tableSet]
  split
  · rename_i h
    rw [hf, State.entry, h.1, State.entry]
  · rfl

theorem compared_offer (n : Notice) (source : Source) (s : State) : Compared s (offer n source s).1 := by
  rcases offer_cases n source s with ⟨_, e⟩ | ⟨_, e⟩ | ⟨_, _, e⟩ <;> rw [e]
  · exact .refl s
  · exact compared_setEvent _ s
  · exact ⟨fun _ => rfl, fun _ => rfl, rfl, fun _ => rfl, fun _ h => h⟩

theorem compared_requestResync (k : Nat) (s : State) : Compared s (requestResync k s) := by
  unfold requestResync
  dsimp only
  split
  · split
    · exact (compared_offer _ _ s).trans (compared_modifyEntry (fun _ => by rfl) _ _)
    · exact compared_offer _ _ s
  · exact .refl s

theorem compared_onMismatch (k : Nat) (s : State) : Compared s (onMismatch k s) := by
  unfold onMismatch
  split
  · exact compared_requestResync k s
  · split
    · exact .refl s
    · exact compared_modifyEntry (fun _ => by rfl) _ s
  · exact compared_modifyEntry (fun _ => by rfl) _ s
  · exact .refl s
  · exact .refl s
  · exact .refl s
  · exact .refl s
  · exact .refl s

/-- A report that changes neither state nor alert stamp finds nothing to do in the Alarm List. -/
theorem listFollow_of_kept {r : Report} {s : State} (hstate : r.before.state = r.after.state)
    (halert : r.before.alert = r.after.alert) : listFollow r s = s := by
  by_cases hn : r.before.state = .normal
  · exact listFollow_of_silent (by rw [hstate]) (.inl hn)
  · by_cases hl : r.id ∈ s.list.entries
    · exact listFollow_of_unchanged (hstate ▸ hn) hl halert hstate
    · exact listFollow_of_silent (by rw [hstate]) (.inr hl)

/-- An owner-lost flag that clears concerns the Group and Zone Unit alone, which finds nothing to log or to announce. -/
theorem deliver_ownerLostClear {r : Report} (s : State) (he : r.event = .ownerLostClear)
    (hstate : r.before.state = r.after.state) (halert : r.before.alert = r.after.alert) :
    deliver r s = groupsFollow r s := by
  have hpoint : pointEntry r = none := pointEntry_of_unlogged (by simp [he]) (by simp [he])
  have hstale : staleEntry r = none := staleEntry_of_not_stale (by simp [he])
  have hquiet : ∀ t, newAlertFollow r t = t := fun t => if_neg fun h => h.1 (hstate.trans h.2.1)
  rw [deliver, historyFollow_silent s hpoint hstale, listFollow_of_kept hstate halert, hquiet,
    announceFollow_other (.inr (.inr (by simp [he])))]

theorem ownerLostClear_quiet (id : PointId) (stamp : Stamp) (s : State) :
    let t := (recordEvent id .ownerLostClear stamp none (applyOwnerLost false) s).1
    t.history = s.history ∧ t.port = s.port ∧ ∀ z, (t.zone z).lost = (s.zone z).lost := by
  intro t
  let r := eventReport id .ownerLostClear stamp none (applyOwnerLost false) s
  have ht : t = groupsFollow r (s.setRecord id (applyOwnerLost false (s.record id)).1) :=
    deliver_ownerLostClear _ rfl rfl rfl
  refine ⟨?_, ?_, deliver_lost r _⟩
  · rw [ht, (firstOutOnly_groupsFollow r _).history]
    rfl
  · rw [ht, (firstOutOnly_groupsFollow r _).port]
    rfl

theorem compared_clearOwnerLost (k : Nat) (s : State) : Compared s (clearOwnerLost k s) := by
  unfold clearOwnerLost
  split
  · exact .refl s
  · obtain ⟨hhistory, hport, hlost⟩ := ownerLost_keeps (stamp := s.link.current)
      (P := fun t => t.history = s.history ∧ t.port = s.port ∧ ∀ z, (t.zone z).lost = (s.zone z).lost)
      (fun id t ht => by
        obtain ⟨h, p, l⟩ := ht
        obtain ⟨h', p', l'⟩ := ownerLostClear_quiet id s.link.current t
        exact ⟨h'.trans h, p'.trans p, fun z => (l' z).trans (l z)⟩) k ⟨rfl, rfl, fun _ => rfl⟩
    have hdirectory := (records_ownerLost false k s.link.current s).directory
    exact ⟨fun j => congrArg DirEntry.liveness (State.entry_of_directory hdirectory j), ownerLost_plain k, hhistory, hlost,
      fun e he => by rwa [State.hasEvent, hport]⟩

theorem compared_compareDigest (k : Nat) (header : Check) (s : State) : Compared s (compareDigest k header s) := by
  unfold compareDigest
  split
  · exact (compared_modifyEntry (fun _ => by rfl) k s).trans (compared_clearOwnerLost k _)
  · exact (compared_setEvent .resync s).trans (compared_onMismatch k _)

theorem compared_takeDigest (f : SlotFrame) (ownFrame : Bool) (s : State) : Compared s (takeDigest f ownFrame s) := by
  unfold takeDigest
  split
  · exact .refl s
  · split
    · exact compared_mapAgreement _ s
    · exact compared_compareDigest _ _ s

/-! ### A comparison that does not match, or is not made yet -/

theorem onMismatch_points (k : Nat) (s : State) : (onMismatch k s).points = s.points := by
  have hrequest : (requestResync k s).points = s.points := by
    unfold requestResync
    dsimp only
    split
    · split
      · exact (tables_offer _ _ s).points
      · exact (tables_offer _ _ s).points
    · rfl
  unfold onMismatch
  split
  · exact hrequest
  · split <;> rfl
  all_goals rfl

/-- The Point Table stays where the copies differ from the header, and while the list that follows is awaited. -/
theorem takeDigest_points {f : SlotFrame} {ownFrame : Bool} {s : State}
    (h : s.digest f.sender ≠ f.digest ∨ f.listFollows = true) : (takeDigest f ownFrame s).points = s.points := by
  unfold takeDigest
  split
  · rfl
  · split
    · rfl
    · rename_i hnow
      rw [compareDigest, if_neg (h.resolve_right hnow), onMismatch_points]
      rfl

theorem entryOfRecord_of_unplaced (p : Nat) {r r' : PointRecord} (h : r.unplaced = r'.unplaced) :
    entryOfRecord p r = entryOfRecord p r' :=
  congr_of_unplaced (fun _ => rfl) r r' h

/-- The digest rests on the sixteen field records apart from their places in the Alarm List. -/
theorem digest_congr {s t : State} {k : Nat} (h : ∀ p, p ≤ 15 → (t.record ⟨k, p⟩).unplaced = (s.record ⟨k, p⟩).unplaced) :
    t.digest k = s.digest k := by
  refine congrArg digestOf (List.map_congr_left fun p hp => entryOfRecord_of_unplaced p (h p ?_))
  have := List.mem_range.mp hp
  omega

/-! ### Reception (R83, R93, R97) -/

theorem makeDeferred_absent {s : State} (h : s.agreement.deferred = none) : makeDeferred s = s := by
  simp [makeDeferred, h]

theorem settleCycle_later {isMark : Bool} {c now : Nat} {s : State} (h : s.link.cycle = some now) (hc : now < c) :
    settleCycle isMark c s = takeCycle c s := by
  simp [settleCycle, h, hc]

theorem outOfOrder_of_later {s : State} {f : SlotFrame} {now : Nat} (h : s.link.cycle = some now) (hc : now < f.cycle) :
    s.outOfOrder f = false := by
  have hne : s.link.cycle ≠ some f.cycle := fun e => by
    have := Option.some.inj (h.symm.trans e)
    omega
  simp [State.outOfOrder, hne]

theorem ensureStarted_cycle (s : State) : (ensureStarted s).link.cycle = s.link.cycle := by
  unfold ensureStarted
  split <;> rfl

theorem linkOnly_presetSlot (k : Nat) (s : State) : LinkOnly s (presetSlot k s) := by
  unfold presetSlot
  dsimp only
  split
  · exact (linkOnly_mapLink _ s).trans (linkOnly_mapLink _ _)
  · exact linkOnly_mapLink _ s

/-- A peer's SLOT frame of a later cycle is applied by a station that applies frames, with no comparison before it. -/
theorem receiveBytes_slot {s : State} {bytes : List Byte} {f : SlotFrame} {now : Nat} (d : During)
    (happly : s.link.state.appliesFrames = true) (hsending : s.link.sending = none)
    (hjudge : judge s.slots bytes = .slot f) (hpeer : f.sender ≠ s.own) (hpos : s.link.position ≠ .unsynchronised)
    (hcycle : s.link.cycle = some now) (hlater : now < f.cycle) (hdeferred : s.agreement.deferred = none) :
    ∃ t, LinkOnly s t ∧ receiveBytes d bytes s = applySlot f false d (f.notices.map (fun n => (n, false))) t := by
  obtain ⟨hstart, hposition⟩ := listHeard_ensureStarted s
  let u := (ensureStarted s).mapLink (fun l => { l with reception := .idle, markTimer := .stopped })
  have hmade : makeDeferred (ensureStarted s) = ensureStarted s :=
    makeDeferred_absent (by rw [hstart.only]; exact hdeferred)
  have hexamine : examineSender f.sender false (ensureStarted s) = ensureStarted s := by
    simp [examineSender, hstart.own, hpeer]
  have hnow : u.link.cycle = some now := (ensureStarted_cycle s).trans hcycle
  have hfollows : u.followsOnly (ensureStarted s).link.position = false := by
    have hstate : u.link.state = s.link.state := hstart.state
    simp [State.followsOnly, hposition, hpos, hstate, happly]
  refine ⟨takeCycle f.cycle u, (hstart.only.trans (linkOnly_mapLink _ _)).trans (linkOnly_mapLink _ _), ?_⟩
  rw [receiveBytes, if_neg (by simp [receives_of_appliesFrames happly, hsending]), hjudge]
  show receiveSlot d f s = _
  rw [receiveSlot, hmade, hexamine]
  show (if u.followsOnly (ensureStarted s).link.position = true then _
    else if u.outOfOrder f = true then _ else applySlot f false d _ (settleCycle false f.cycle u)) = _
  rw [if_neg (by simp [hfollows]), if_neg (by simp [outOfOrder_of_later hnow hlater]), settleCycle_later hnow hlater]

theorem exec_slotFrameReceived (bytes : List Byte) (inside : List Inside) (s : State) :
    exec (.slotFrameReceived bytes inside) s = whenUp s (receiveBytes (fallInside inside) bytes) := rfl

/-- A SLOT frame without notices is its header and its comparison (R97). -/
theorem applySlot_bare {f : SlotFrame} (ownFrame : Bool) (s : State) (h : f.notices = []) :
    applySlot f ownFrame nothingInside (f.notices.map (fun n => (n, false))) s =
      setCurrent ⟨f.cycle, f.sender, 47⟩ (takeDigest f ownFrame (directoryHeader f f.cycle (presetSlot f.sender s))) := by
  rw [h]
  rfl

theorem LinkOnly.directory {s t : State} (h : LinkOnly s t) : t.directory = s.directory := by rw [h]

/-- The header of a frame, taken in a state that differs in the link only. -/
theorem LinkOnly.returned {s u : State} {f : SlotFrame} {c : Nat} (h : LinkOnly s u) (hk : 1 ≤ f.sender)
    (hk24 : f.sender ≤ 24) (hlost : (s.entry f.sender).liveness = .lost) :
    Returned f.sender f.zone ⟨c, f.sender, 0⟩ s (directoryHeader f c u) := by
  have hentry : u.entry f.sender = s.entry f.sender := State.entry_of_directory h.directory _
  refine (returned_directoryHeader hk hk24 (hentry ▸ hlost)).of_same (by rw [h]) (by rw [h]) fun hz => ⟨?_, by rw [h]⟩
  rw [State.zoneOf_of_directory h.directory, hz]

/-- Settles O24: the zone taken by the lemmas about `takeZone`, the return by what the header leaves (`Returned`) and what the
comparison after it leaves alone (`Compared`). -/
theorem zonesAndReturnFromLost : Obligations.ZonesAndReturnFromLost := by
  refine ⟨fun s k z hk hk24 _ _ => ⟨takeZone_held, fun h _ => ⟨zonesOnly_takeZone k z s, takeZone_entry s hk hk24,
    fun y hy hy8 => takeZone_zone h hy hy8, takeZone_demand hk hk24 h⟩⟩, ?_⟩
  intro s bytes f c hup happly hsending hjudge hpeer hk hk24 hpos hcycle hlater hdeferred hnotices hlost old
  obtain ⟨u, hlink, hreceive⟩ :=
    receiveBytes_slot nothingInside happly hsending hjudge hpeer hpos hcycle hlater hdeferred
  rw [applySlot_bare false u hnotices] at hreceive
  let v := directoryHeader f f.cycle (presetSlot f.sender u)
  have hreturn : Returned f.sender f.zone ⟨f.cycle, f.sender, 0⟩ s v :=
    (hlink.trans (linkOnly_presetSlot f.sender u)).returned hk hk24 hlost
  have hcompare : Compared v (takeDigest f false v) := compared_takeDigest f false v
  refine ⟨setCurrent ⟨f.cycle, f.sender, 47⟩ (takeDigest f false v), ?_, ?_⟩
  · rw [exec_slotFrameReceived, whenUp_of_up _ hup, fallInside_nil, hreceive]
  have hplain : ((takeDigest f false v).record ⟨f.sender, 16⟩).plain = (applyLinkLostClear old).1.plain :=
    (hcompare.plain _).trans (PointRecord.plain_of_bare hreturn.record)
  refine ⟨(hcompare.liveness _).trans hreturn.live, hcompare.flags _ hreturn.stajoin,
    (PointRecord.eq_of_plain (·.active) hplain).trans (applyLinkLostClear_active old),
    (PointRecord.eq_of_plain (·.occurrence) hplain).trans (applyLinkLostClear_occurrence old),
    fun hactive => ⟨fun hst => ?_, fun hst hseq => ?_⟩, hcompare.history.trans hreturn.history, ?_, fun hdigest p hp => ?_⟩
  · have hafter := applyLinkLostClear_alert hactive hst
    exact ⟨(PointRecord.eq_of_plain (·.state) hplain).trans (by rw [hafter]),
      (PointRecord.eq_of_plain (·.alert) hplain).trans (by rw [hafter])⟩
  · have hafter := applyLinkLostClear_acked hactive hst hseq
    exact (PointRecord.eq_of_plain (·.state) hplain).trans (by rw [hafter])
  · rintro z hz hz8 hzone rfl
    exact (hcompare.lost _).trans (hreturn.lost hz hz8 hzone)
  · have hfield : ∀ p, p ≤ 15 → (v.record ⟨f.sender, p⟩).unplaced = (s.record ⟨f.sender, p⟩).unplaced :=
      fun p hp => hreturn.others _ (pointId_ne (by omega))
    have hpoints : (takeDigest f false v).points = v.points := takeDigest_points (by rwa [digest_congr hfield])
    exact (congrArg PointRecord.ownerLost (State.record_of_points hpoints _)).trans
      (congr_of_unplaced (fun _ => rfl) _ _ (hfield p hp))

end Sys2Proof.Machine
end

section
/-! Every step keeps `State.Consistent` (R65, R68, R76, R179, R184): the few meanings that Laws/Modes does not speak of, then
`exec` command by command. -/

namespace Sys2Proof.Machine

open Sys2Proof

variable {s : State}

/-! ### Meanings made of operations that keep the modes -/

theorem same_modifyInput (p : Nat) (f : InputState → InputState) (s : State) : SameMode s (s.modifyInput p f) :=
  ⟨rfl, rfl, rfl, rfl, rfl, rfl⟩

theorem same_sampleInputs (closed : BitVec 16) (s : State) : SameMode s (sampleInputs closed s) := by
  unfold sampleInputs
  split
  · refine SameMode.foldl _ (fun s p => ?_) _ s
    unfold sampleInput
    dsimp only
    split
    · exact same_modifyInput _ _ s
    · exact .refl s
  · exact .refl s

theorem same_sampleButtons (ack silence reset test : Bool) (s : State) :
    SameMode s (sampleButtons ack silence reset test s) := ⟨rfl, rfl, rfl, rfl, rfl, rfl⟩

theorem same_tickFlash (s : State) : SameMode s (tickFlash s) := ⟨rfl, rfl, rfl, rfl, rfl, rfl⟩

theorem same_frameStarts (s : State) : SameMode s (frameStarts s) := by
  unfold frameStarts
  split
  · exact same_startFrame s
  · exact .refl s

theorem same_invalidFrameEnds (s : State) : SameMode s (invalidFrameEnds s) := by
  unfold invalidFrameEnds
  split
  · exact same_endInvalidFrame s
  · exact .refl s

theorem consistent_inputEvent (p : Nat) (h : s.Consistent) : State.Consistent (inputEvent p s) := by
  unfold inputEvent
  split
  · exact consistent_runOffers _ _ h
  · exact h

theorem consistent_markEnds (bytes : List Byte) (h : s.Consistent) : State.Consistent (markEnds bytes s) := by
  unfold markEnds
  split
  · split
    · exact consistent_markSent _ h
    · exact h
  · exact h
  · exact h
  · exact consistent_receiveBytes keptInside_nothing _ h

theorem consistent_writeCmdAt1D (word : Word32) (h : s.Consistent) : State.Consistent (writeCmdAt1D word s) :=
  consistent_serve _ _ (fun h => consistent_writeCmd word h) h

theorem consistent_execResetnLow (selected : Bool) (h : s.Consistent) :
    State.Consistent (if s.supply then heldStart selected { s with resetnLow := true } else { s with resetnLow := true }) := by
  split
  · exact consistent_heldStart _ _
  · exact h.of_same ⟨rfl, rfl, rfl, rfl, rfl, rfl⟩

/-- The end of a transaction, in which "WARM" may have asked for a warm restart (R163, R164). -/
theorem consistent_ssnRises (h : s.Consistent) :
    State.Consistent (if s.up then endTransaction s else setTransaction .idle s) := by
  split
  · exact consistent_restartIfRequested (h.of_same (same_mapPort _ s))
  · exact h.of_same (same_setTransaction _ s)

/-! ### The step -/

/-- What a meaning's outcome must satisfy: the next state, where there is one, agrees in its modes. -/
def KeepsModes (o : Host.Outcome State Fault Refusal) : Prop := ∀ t, o = .next t → t.Consistent

theorem keepsModes_next (h : s.Consistent) : KeepsModes (.next s) := by
  rintro t ⟨⟩
  exact h

theorem keepsModes_whenUp (f : State → State) (hf : s.Consistent → (f s).Consistent) (h : s.Consistent) :
    KeepsModes (whenUp s f) := by
  refine keepsModes_next ?_
  split
  · exact hf h
  · exact h

theorem keepsModes_whenServed (after : Transaction) (f : State → State)
    (hf : ∀ {s : State}, s.Consistent → (f s).Consistent) (h : s.Consistent) : KeepsModes (whenServed after s f) :=
  keepsModes_next (consistent_serve after f hf h)

theorem keepsModes_writeCmdRow (word : Word32) (h : s.Consistent) : KeepsModes (writeCmdRow word s) :=
  keepsModes_next (consistent_writeCmdAt1D word h)

/-- Every command keeps the modes, whatever its operands. -/
theorem keepsModes_exec (i : Instr) (h : s.Consistent) : KeepsModes (exec i s) := by
  cases i with
  -- starts, pins and supply
  | powerOn selected => exact keepsModes_next (consistent_heldStart _ _)
  | resetnLow selected => exact keepsModes_next (consistent_execResetnLow selected h)
  | warmRestart => exact keepsModes_whenUp _ consistent_restartIfRequested h
  | resetnHigh => exact keepsModes_next (h.of_same ⟨rfl, rfl, rfl, rfl, rfl, rfl⟩)
  | powerOnHoldEnd => exact keepsModes_next (h.of_same ⟨rfl, rfl, rfl, rfl, rfl, rfl⟩)
  | lossOfSupply => exact keepsModes_next (h.of_same ⟨rfl, rfl, rfl, rfl, rfl, rfl⟩)
  | ssnRising => exact keepsModes_next (consistent_ssnRises h)
  -- the Configuration Loader
  | configWaitExpiry => exact keepsModes_whenUp _ consistent_configWaitEnds h
  | failedAttempt cause => exact keepsModes_whenUp _ consistent_attemptFails h
  | retryWaitExpiry => exact keepsModes_whenUp _ consistent_retryWaitEnds h
  | configReadComplete bytes => exact keepsModes_whenUp _ (consistent_readCompletes bytes) h
  -- inputs and panel
  | inputSample closed => exact keepsModes_whenUp _ (·.of_same (same_sampleInputs closed s)) h
  | inputEvent point => exact keepsModes_whenUp _ (consistent_inputEvent point) h
  | buttonSample ack silence reset test =>
    exact keepsModes_whenUp _ (·.of_same (same_sampleButtons ack silence reset test s)) h
  | ackPress => exact keepsModes_whenUp _ consistent_ackAction h
  | resetPress => exact keepsModes_whenUp _ consistent_resetAction h
  | silencePress => exact keepsModes_whenUp _ (·.of_same (same_silenceAction s)) h
  | testPress => exact keepsModes_whenUp _ (consistent_rejoin (.lampTest none) rfl) h
  | testRelease => exact keepsModes_whenUp _ consistent_endLampTest h
  | flashClockTick => exact keepsModes_whenUp _ (·.of_same (same_tickFlash s)) h
  | lampTestExpiry => exact keepsModes_whenUp _ consistent_expireLampTest h
  | rejoinDelayExpiry => exact keepsModes_whenUp _ consistent_expireRejoinDelay h
  -- frames received
  | frameStart => exact keepsModes_whenUp _ (·.of_same (same_frameStarts s)) h
  | collision => exact keepsModes_whenUp _ consistent_collide h
  | frameEndByGap => exact keepsModes_whenUp _ consistent_cutFrame h
  | invalidFrame => exact keepsModes_whenUp _ (·.of_same (same_invalidFrameEnds s)) h
  | markReceived bytes => exact keepsModes_whenUp _ (consistent_markEnds bytes) h
  | slotFrameReceived bytes inside =>
    exact keepsModes_whenUp _ (consistent_receiveBytes (consistent_fallInside inside) bytes) h
  | ownedListReceived bytes inside =>
    exact keepsModes_whenUp _ (consistent_receiveBytes (consistent_fallInside inside) bytes) h
  -- frames sent
  | slotFrameSend => exact keepsModes_whenUp _ consistent_sendSlotFrame h
  | ownSlotFrameSent inside removedFirst =>
    exact keepsModes_whenUp _ (consistent_slotFrameSent (consistent_fallInside inside) removedFirst) h
  | ownedListSend => exact keepsModes_whenUp _ (·.of_same (same_sendOwnedList s)) h
  | ownedListSent => exact keepsModes_whenUp _ consistent_ownedListSent h
  | markTimerExpiry => exact keepsModes_whenUp _ (·.of_same (same_expireMarkTimer s)) h
  -- time on the link
  | listenWindowExpiry => exact keepsModes_whenUp _ (·.of_same (same_listenWindowEnds s)) h
  | founding => exact keepsModes_whenUp _ consistent_found h
  | joinQuietTimeout => exact keepsModes_whenUp _ consistent_joinQuietEnds h
  | silentSlot => exact keepsModes_whenUp _ consistent_silentSlotEnds h
  | slotEnd => exact keepsModes_whenUp _ consistent_occupiedSlotEnds h
  | slotLengthLimit => exact keepsModes_whenUp _ consistent_slotLimitEnds h
  -- the mailbox
  | acka => exact keepsModes_writeCmdRow _ h
  | ackp => exact keepsModes_writeCmdRow _ h
  | rsta => exact keepsModes_writeCmdRow _ h
  | shlv => exact keepsModes_writeCmdRow _ h
  | unsh => exact keepsModes_writeCmdRow _ h
  | siln => exact keepsModes_writeCmdRow _ h
  | test => exact keepsModes_writeCmdRow _ h
  | clrh => exact keepsModes_writeCmdRow _ h
  | isol => exact keepsModes_writeCmdRow _ h
  | rjon => exact keepsModes_writeCmdRow _ h
  | lkey => exact keepsModes_writeCmdRow _ h
  | warm => exact keepsModes_writeCmdRow _ h
  | abrt => exact keepsModes_writeCmdRow _ h
  | unknownCommand code => exact keepsModes_writeCmdRow _ h
  | overrun code => exact keepsModes_writeCmdRow _ h
  -- the registers
  | eventsWrite offset value =>
    exact keepsModes_next (consistent_serve _ _ (fun h => h.of_same (same_mapPort _ _)) h)
  | eventmaskWrite offset value => exact keepsModes_whenServed _ _ (fun h => h.of_same (same_mapPort _ _)) h
  | countersWrite offset value => exact keepsModes_whenServed _ _ (fun h => h.of_same (same_zeroCounters _)) h
  | selectWrite object index => exact keepsModes_whenServed _ _ (fun h => h.of_same (same_writeSelect _ _ _)) h
  | recordLoad => exact keepsModes_next (consistent_serve _ _ (fun h => h.of_same (same_mapPort _ _)) h)
  | registerWrite address value => exact keepsModes_whenServed _ _ (consistent_writeByte _ _) h

theorem consistent_pending (rest : List Instr) (h : s.Consistent) : State.Consistent { s with pending := rest } :=
  h.of_same ⟨rfl, rfl, rfl, rfl, rfl, rfl⟩

/-- Settles O60: a step idles, or executes its front command on a state that differs in the waiting commands only. -/
theorem stepKeepsTheModes : Obligations.StepKeepsTheModes := by
  intro s t h hstep
  unfold step at hstep
  split at hstep
  · exact keepsModes_next h t hstep
  · exact keepsModes_exec _ (consistent_pending _ h) t hstep

end Sys2Proof.Machine
end

section
/-! Offers to the Notice Queue in RUNNING (R66, R67): with room the notice is appended, a full queue sets QFULL. The presses
of ACK and RESET (R62, R68, R151) by these two. -/

namespace Sys2Proof.Machine

open Sys2Proof

/-! ### Room in the queue -/

theorem queueFull_iff {s : State} : s.queueFull = true ↔ 12 ≤ s.notices.length := by
  simp [State.queueFull, Config.queuePlaces]

theorem queueFull_of_room {s : State} (h : s.notices.length < 12) : s.queueFull = false := by
  rw [← Bool.not_eq_true, queueFull_iff]
  omega

theorem offer_room {s : State} (n : Notice) (source : Source) (hs : s.link.state = .running)
    (hroom : s.notices.length < 12) : offer n source s = (appendNotice n source s, true) := by
  simp [offer, hs, accepts, queueFull_of_room hroom]

theorem offer_full {s : State} (n : Notice) (source : Source) (hs : s.link.state = .running)
    (hfull : 12 ≤ s.notices.length) : offer n source s = (setEvent .qfull s, false) := by
  simp [offer, hs, accepts, queueFull_iff.mpr hfull]

/-! ### The press of ACK -/

theorem exec_ackPress (s : State) : exec .ackPress s = whenUp s ackAction := rfl

theorem ackAction_running {s : State} (hs : s.link.state = .running) : ackAction s = pressAck s := if_pos hs

theorem ackAction_elsewhere {s : State} (hs : s.link.state ≠ .running) : ackAction s = s := if_neg hs

theorem pressAck_none {s : State} (h : s.newest acknowledgeable s.viewMask = none) :
    pressAck s = { s with panel := { s.panel with heldAck := none } } := by
  simp only [pressAck, State.ackNotice, h]
  rfl

theorem pressAck_some {s : State} {l : Stamp} (h : s.newest acknowledgeable s.viewMask = some l) :
    pressAck s = (offer (.ackUpto s.viewMask l) .ackButton s).1.mapPanel (fun p =>
      { p with heldAck := if (offer (.ackUpto s.viewMask l) .ackButton s).2 then none else some (.ackUpto s.viewMask l) }) := by
  simp only [pressAck, State.ackNotice, h]
  rfl

/-! ### The press of RESET -/

/-- The state after a local reset action: the Group and Zone Unit alone differs (R57). -/
def State.released (s : State) : State := { s with groups := s.groups.released }

theorem localReset_eq (s : State) : localReset s = s.released := by
  have hframe : localReset s = { s with groups := (localReset s).groups } := by
    unfold localReset
    split <;> rfl
  rw [hframe, localReset_groups]
  rfl

theorem resetAction_running {s : State} (hs : s.link.state = .running) : resetAction s = pressReset s.released := by
  rw [← localReset_eq]
  exact if_pos hs

theorem resetAction_elsewhere {s : State} (hs : s.link.state ≠ .running) : resetAction s = s.released := by
  rw [← localReset_eq]
  exact if_neg hs

theorem pressReset_none {s : State} (h : s.newest resettable s.viewMask = none) :
    pressReset s = { s with panel := { s.panel with heldReset := none } } := by
  simp only [pressReset, State.resetNotice, h]
  rfl

theorem pressReset_some {s : State} {l : Stamp} (h : s.newest resettable s.viewMask = some l) :
    pressReset s = (offer (.resetUpto s.viewMask l) .resetButton s).1.mapPanel (fun p =>
      { p with heldReset :=
          if (offer (.resetUpto s.viewMask l) .resetButton s).2 then none else some (.resetUpto s.viewMask l) }) := by
  simp only [pressReset, State.resetNotice, h]
  rfl

/-- Settles O10: a press by whether there is a stamp to reach, its offer by whether the queue has room. The local reset of a
RESET press touches the groups only, so the press that follows finds the same stamp and the same queue. -/
theorem pressesFormTheirNotices : Obligations.PressesFormTheirNotices := by
  intro s hup
  rw [exec_ackPress, exec_resetPress, whenUp_of_up _ hup, whenUp_of_up _ hup]
  refine ⟨⟨fun hs => ?_, fun hs hnone => ?_, fun l hs hl => ⟨fun hroom => ?_, fun hfull => ?_⟩⟩,
    fun hs => ?_, fun hs hnone => ?_, fun l hs hl => ?_⟩
  · rw [ackAction_elsewhere hs]
  · rw [ackAction_running hs, pressAck_none hnone]
  · rw [ackAction_running hs, pressAck_some hl, offer_room _ _ hs hroom]
    rfl
  · rw [ackAction_running hs, pressAck_some hl, offer_full _ _ hs hfull]
    rfl
  · rw [resetAction_elsewhere hs]
    rfl
  · rw [resetAction_running hs, pressReset_none (s := s.released) hnone]
    rfl
  · refine ⟨fun hroom => ?_, fun hfull => ?_⟩
    · rw [resetAction_running hs, pressReset_some (s := s.released) hl, offer_room (s := s.released) _ _ hs hroom]
      rfl
    · rw [resetAction_running hs, pressReset_some (s := s.released) hl, offer_full (s := s.released) _ _ hs hfull]
      rfl

end Sys2Proof.Machine
end

section
/-! The notice commands of the mailbox (R63, R64, R175, R180): a command taken into the idle mailbox changes the port only,
so each check after it is made on the state as it stood; the checks in their order, one lemma each. -/

namespace Sys2Proof.Machine

open Sys2Proof

/-! ### A command is taken -/

theorem exec_ofCommand (code : CommandCode) (s : State) :
    exec (Instr.ofCommand code) s = .next (writeCmdAt1D code.word s) := by
  cases code <;> rfl

/-- The state that has taken a command: the mailbox alone differs (R172). -/
def State.taken (code : CommandCode) (s : State) : State := { s with port := s.port.taken code s.link.current }

theorem exec_ofCommand_idle {s t : State} (hidle : s.mailboxIdle = true) (hconf : s.configured = true) (code : CommandCode)
    (h : handleCommand code s.port.data (s.taken code) = t) : exec (Instr.ofCommand code) s = .next t := by
  rw [exec_ofCommand, writeCmdAt1D_starts hidle hconf, ← h]
  rfl

theorem configured_of_running {s : State} (h : s.link.state = .running) : s.configured = true := by
  simp [State.configured, h, LinkState.unconfigured]

/-! ### The checks (R64, R180) -/

theorem whenRunning_running {f : State → State} {s : State} (h : s.link.state = .running) : whenRunning f s = f s := if_pos h

theorem whenRunning_elsewhere {f : State → State} {s : State} (h : s.link.state ≠ .running) :
    whenRunning f s = complete .refused [] s := if_neg h

theorem whenUnlocked_unlocked {f : State → State} {s : State} (h : s.unlocked = true) : whenUnlocked f s = f s := if_pos h

theorem whenUnlocked_locked {f : State → State} {s : State} (h : s.unlocked = false) : whenUnlocked f s = refuseLocked s :=
  if_neg (by simp [h])

/-- With room the notice is appended with the command mark, and the command stays in progress. -/
theorem queueCommandNotice_room {s : State} (n : Notice) (hs : s.link.state = .running) (hroom : s.notices.length < 12) :
    queueCommandNotice n s = { s with
      notices := s.notices ++ [{ notice := n, source := .command, age := 0, inFlight := false, cmdMark := true }] } := by
  rw [queueCommandNotice, offer_room n _ hs hroom]
  rfl

theorem queueCommandNotice_full {s : State} (n : Notice) (hs : s.link.state = .running) (hfull : 12 ≤ s.notices.length) :
    queueCommandNotice n s = { s with port := (s.port.flagged .qfull).completed .full [] } := by
  rw [queueCommandNotice, offer_full n _ hs hfull]
  rfl

/-- A locked command: the completion, LOCKREF, and the LOCK REFUSED entry, with HISTOVF where the log is full. -/
theorem refuseLocked_hasEvent (s : State) (e : Event) :
    (refuseLocked s).hasEvent e = (s.hasEvent e || e = .cmddone || e = .lockref
      || (e = .histovf && decide (48 ≤ s.history.entries.length))) := by
  have hset : (setEvent .lockref (complete .locked [] s)).hasEvent e = (s.hasEvent e || e = .cmddone || e = .lockref) := by
    rw [hasEvent_setEvent, complete, hasEvent_setEvent]
    rfl
  unfold refuseLocked recordOwn recordHistory
  dsimp only
  split
  · rename_i hlen
    have hlen : ¬ 48 ≤ s.history.entries.length := Nat.not_le.mpr hlen
    rw [decide_eq_false hlen, Bool.and_false, Bool.or_false]
    exact hset
  · rename_i hlen
    have hlen : 48 ≤ s.history.entries.length := Nat.not_lt.mp hlen
    rw [decide_eq_true hlen, Bool.and_true, hasEvent_setEvent]
    exact congrArg (· || decide (e = .histovf)) hset

theorem refuseLocked_history (s : State) : (refuseLocked s).history =
    s.history.append { stamp := s.link.current, kind := .lockRefused, station := s.own } := by
  rw [refuseLocked, recordOwn, recordHistory_eq]
  rfl

theorem refuseLocked_frame (s : State) : refuseLocked s = { s with
    port := { s.port.completed .locked [] with events := (refuseLocked s).port.events }
    history := (refuseLocked s).history } := by
  rw [refuseLocked, recordOwn, recordHistory_eq]
  rfl

theorem handleCommand_locked {code : CommandCode} {s : State} (inputs : Vector Byte 16)
    (hcode : code ∈ [CommandCode.shlv, .unsh, .isol, .clrh]) (h : s.unlocked = false) :
    handleCommand code inputs s = refuseLocked s := by
  simp only [List.mem_cons, List.not_mem_nil, or_false] at hcode
  rcases hcode with rfl | rfl | rfl | rfl <;> rw [handleCommand]
  · rw [commandShlv, whenUnlocked_locked h]
  · rw [commandUnsh, whenUnlocked_locked h]
  · rw [commandIsol, whenUnlocked_locked h]
  · rw [commandClrh, whenUnlocked_locked h]

/-! ### The five commands in RUNNING (R63, R64) -/

section
variable {s : State} {inputs : Vector Byte 16}

theorem commandAcka_some (hs : s.link.state = .running) {l : Stamp} (h : limitInput inputs acknowledgeable s = some l) :
    commandAcka inputs s = queueCommandNotice (.ackUpto (maskInput inputs s) l) s := by
  rw [commandAcka, whenRunning_running hs, h]

theorem commandAcka_none (hs : s.link.state = .running) (h : limitInput inputs acknowledgeable s = none) :
    commandAcka inputs s = complete .done [] s := by
  rw [commandAcka, whenRunning_running hs, h]

theorem commandAcka_elsewhere (hs : s.link.state ≠ .running) : commandAcka inputs s = complete .refused [] s := by
  rw [commandAcka, whenRunning_elsewhere hs]

theorem commandRsta_some (hs : s.link.state = .running) {l : Stamp} (h : limitInput inputs resettable s = some l) :
    commandRsta inputs s = queueCommandNotice (.resetUpto (maskInput inputs s) l) s.released := by
  have h : limitInput inputs resettable s.released = some l := h
  simp only [commandRsta, localReset_eq, whenRunning_running (s := s.released) hs, h]
  rfl

theorem commandRsta_none (hs : s.link.state = .running) (h : limitInput inputs resettable s = none) :
    commandRsta inputs s = complete .done [] s.released := by
  have h : limitInput inputs resettable s.released = none := h
  simp only [commandRsta, localReset_eq, whenRunning_running (s := s.released) hs, h]

theorem commandRsta_elsewhere (hs : s.link.state ≠ .running) : commandRsta inputs s = complete .refused [] s.released := by
  rw [commandRsta, localReset_eq, whenRunning_elsewhere (s := s.released) hs]

theorem commandAckp_inRange (hs : s.link.state = .running) (h : ackpInRange inputs = true) :
    commandAckp inputs s =
      queueCommandNotice (.ackPoint (ownerInput inputs) (pointInput inputs) (occurrenceInput inputs)) s := by
  rw [commandAckp, whenRunning_running hs, if_pos h]

theorem commandAckp_outOfRange (hs : s.link.state = .running) (h : ackpInRange inputs = false) :
    commandAckp inputs s = complete .refused [] s := by
  rw [commandAckp, whenRunning_running hs, if_neg (by simp [h])]

theorem commandAckp_elsewhere (hs : s.link.state ≠ .running) : commandAckp inputs s = complete .refused [] s := by
  rw [commandAckp, whenRunning_elsewhere hs]

theorem commandShlv_inRange (hu : s.unlocked = true) (hs : s.link.state = .running) (h : shelveInRange inputs = true) :
    commandShlv inputs s = queueCommandNotice (.shelve (ownerInput inputs) (pointInput inputs)) s := by
  rw [commandShlv, whenUnlocked_unlocked hu, whenRunning_running hs, if_pos h]

theorem commandShlv_outOfRange (hu : s.unlocked = true) (hs : s.link.state = .running) (h : shelveInRange inputs = false) :
    commandShlv inputs s = complete .refused [] s := by
  rw [commandShlv, whenUnlocked_unlocked hu, whenRunning_running hs, if_neg (by simp [h])]

theorem commandShlv_elsewhere (hu : s.unlocked = true) (hs : s.link.state ≠ .running) :
    commandShlv inputs s = complete .refused [] s := by
  rw [commandShlv, whenUnlocked_unlocked hu, whenRunning_elsewhere hs]

theorem commandUnsh_inRange (hu : s.unlocked = true) (hs : s.link.state = .running) (h : shelveInRange inputs = true) :
    commandUnsh inputs s = queueCommandNotice (.unshelve (ownerInput inputs) (pointInput inputs)) s := by
  rw [commandUnsh, whenUnlocked_unlocked hu, whenRunning_running hs, if_pos h]

theorem commandUnsh_outOfRange (hu : s.unlocked = true) (hs : s.link.state = .running) (h : shelveInRange inputs = false) :
    commandUnsh inputs s = complete .refused [] s := by
  rw [commandUnsh, whenUnlocked_unlocked hu, whenRunning_running hs, if_neg (by simp [h])]

theorem commandUnsh_elsewhere (hu : s.unlocked = true) (hs : s.link.state ≠ .running) :
    commandUnsh inputs s = complete .refused [] s := by
  rw [commandUnsh, whenUnlocked_unlocked hu, whenRunning_elsewhere hs]

end

/-- Settles O39: the command is taken, passes its checks (the lemmas above) and finds room. -/
theorem noticeCommandsQueueTheirNotice : Obligations.NoticeCommandsQueueTheirNotice := by
  refine ⟨fun s input qualifies => ⟨rfl, rfl⟩, fun s hidle hs hroom => ?_⟩
  have start {t : State} := exec_ofCommand_idle (t := t) hidle (configured_of_running hs)
  have queues (code : CommandCode) (n : Notice) := queueCommandNotice_room (s := s.taken code) n hs hroom
  refine ⟨fun l hl => ?_, fun hnone => ?_, fun l hl => ?_, fun hnone => ?_, fun hin => ?_, fun hu hin => ⟨?_, ?_⟩⟩
  · exact start .acka ((commandAcka_some (s := s.taken .acka) hs hl).trans (queues .acka _))
  · exact start .acka (commandAcka_none (s := s.taken .acka) hs hnone)
  · exact start .rsta ((commandRsta_some (s := s.taken .rsta) hs hl).trans
      (queueCommandNotice_room (s := (s.taken .rsta).released) _ hs hroom))
  · exact start .rsta (commandRsta_none (s := s.taken .rsta) hs hnone)
  · exact start .ackp ((commandAckp_inRange (s := s.taken .ackp) hs hin).trans (queues .ackp _))
  · exact start .shlv ((commandShlv_inRange (s := s.taken .shlv) hu hs hin).trans (queues .shlv _))
  · exact start .unsh ((commandUnsh_inRange (s := s.taken .unsh) hu hs hin).trans (queues .unsh _))

/-- Settles O40: the command is taken and stopped by the first check it fails: the lock, the link state, the inputs, the
room. -/
theorem noticeCommandChecks : Obligations.NoticeCommandChecks := by
  intro s hidle hconf
  have start {t : State} := exec_ofCommand_idle (t := t) hidle hconf
  refine ⟨fun code hcode hlocked => ?_, fun hs => ⟨?_, ?_, ?_, fun hu => ⟨?_, ?_⟩⟩, fun hs hout => ?_,
    fun hs hout hu => ⟨?_, ?_⟩, fun hs hfull => ?_⟩
  · exact ⟨refuseLocked (s.taken code), start code (handleCommand_locked _ hcode hlocked),
      refuseLocked_frame _, refuseLocked_hasEvent _, refuseLocked_history _⟩
  · exact start .acka (commandAcka_elsewhere (s := s.taken .acka) hs)
  · exact start .ackp (commandAckp_elsewhere (s := s.taken .ackp) hs)
  · exact start .rsta (commandRsta_elsewhere (s := s.taken .rsta) hs)
  · exact start .shlv (commandShlv_elsewhere (s := s.taken .shlv) hu hs)
  · exact start .unsh (commandUnsh_elsewhere (s := s.taken .unsh) hu hs)
  · exact start .ackp (commandAckp_outOfRange (s := s.taken .ackp) hs hout)
  · exact start .shlv (commandShlv_outOfRange (s := s.taken .shlv) hu hs hout)
  · exact start .unsh (commandUnsh_outOfRange (s := s.taken .unsh) hu hs hout)
  · have full (code : CommandCode) (n : Notice) := queueCommandNotice_full (s := s.taken code) n hs hfull
    refine ⟨fun hsome => ?_, fun hsome => ?_, fun hin => ?_, fun hu hin => ⟨?_, ?_⟩⟩
    · obtain ⟨l, hl⟩ := Option.ne_none_iff_exists'.mp hsome
      exact start .acka ((commandAcka_some (s := s.taken .acka) hs hl).trans (full .acka _))
    · obtain ⟨l, hl⟩ := Option.ne_none_iff_exists'.mp hsome
      exact start .rsta ((commandRsta_some (s := s.taken .rsta) hs hl).trans
        (queueCommandNotice_full (s := (s.taken .rsta).released) _ hs hfull))
    · exact start .ackp ((commandAckp_inRange (s := s.taken .ackp) hs hin).trans (full .ackp _))
    · exact start .shlv ((commandShlv_inRange (s := s.taken .shlv) hu hs hin).trans (full .shlv _))
    · exact start .unsh ((commandUnsh_inRange (s := s.taken .unsh) hu hs hin).trans (full .unsh _))

end Sys2Proof.Machine
end

section
/-! The Scanner's comparison of one input (R69, R70), by what is queued for its point, and what a run of offers leaves
alone. -/

namespace Sys2Proof.Machine

open Sys2Proof

/-! ### What is queued for a point -/

theorem lastFor_eq (s : State) (p : Nat) : s.lastFor p = (s.noticesFor p).getLast? := by
  rw [State.lastFor, State.noticesFor, ← List.head?_filter, List.filter_reverse, List.head?_reverse]

theorem projected_of_none {s : State} {p : Nat} (h : s.noticesFor p = []) : s.projected p = (s.input p).announced := by
  rw [State.projected, lastFor_eq, h]
  rfl

theorem hasChange_eq {s : State} {p : Nat} (hs : s.link.state = .running) (hu : (s.inputConfig p).used = true) :
    s.hasChange p = (s.filteredActive p != s.projected p) := by
  simp [State.hasChange, hs, hu]

/-- A notice for an own point is a RAISE or a CLEAR that names it (R61). -/
theorem conditionFor_isSome {p : Nat} {q : QueuedNotice} (h : (conditionFor p q).isSome = true) :
    ∃ o a, q.notice = .raise p o a ∨ q.notice = .clear p o a := by
  unfold conditionFor at h
  split at h
  · rename_i p' o a hq
    by_cases hp : p' = p
    · exact ⟨o, a, .inl (hp ▸ hq)⟩
    · rw [if_neg hp] at h
      exact absurd h (by decide)
  · rename_i p' o a hq
    by_cases hp : p' = p
    · exact ⟨o, a, .inr (hp ▸ hq)⟩
    · rw [if_neg hp] at h
      exact absurd h (by decide)
  all_goals exact absurd h (by decide)

/-! ### The offer of one input -/

section
variable {s : State} {p : Nat}

theorem offerInput_unchanged (h : s.hasChange p = false) : offerInput p s = (s, []) := if_neg (by simp [h])

theorem offerInput_raise (hs : s.link.state = .running) (hu : (s.inputConfig p).used = true) (hq : s.noticesFor p = [])
    (hf : s.filteredActive p = true) (ha : (s.input p).announced = false) :
    offerInput p s =
      ((offer (.raise p (nextOccurrence (s.ownOccurrence p)) (s.inputConfig p).attrs) .input s).1, []) := by
  have hchange : s.hasChange p = true := by rw [hasChange_eq hs hu, hf, projected_of_none hq, ha]; rfl
  have hlast : s.lastFor p = none := by rw [lastFor_eq, hq]; rfl
  simp only [offerInput, hchange, hf, hlast, if_true]

theorem offerInput_clear (hs : s.link.state = .running) (hu : (s.inputConfig p).used = true) (hq : s.noticesFor p = [])
    (hf : s.filteredActive p = false) (ha : (s.input p).announced = true) :
    offerInput p s = ((offer (.clear p (s.ownOccurrence p) (s.inputConfig p).attrs) .input s).1, []) := by
  have hchange : s.hasChange p = true := by rw [hasChange_eq hs hu, hf, projected_of_none hq, ha]; rfl
  have hlast : s.lastFor p = none := by rw [lastFor_eq, hq]; rfl
  simp only [offerInput, hchange, hf, hlast, if_true, Bool.false_eq_true, if_false]

theorem offerInput_same (hs : s.link.state = .running) (hu : (s.inputConfig p).used = true) (hq : s.noticesFor p = [])
    (h : s.filteredActive p = (s.input p).announced) : offerInput p s = (s, []) :=
  offerInput_unchanged (by rw [hasChange_eq hs hu, projected_of_none hq, h, bne_self_eq_false])

/-- One input compared on its own, when the comparison brings no task. -/
theorem runOffers_one {t : State} (fuel : Nat) (h : offerInput p s = (t, [])) :
    runOffers (fuel + 1) [.input p] s = t := by
  simp only [runOffers, runOffer, h, List.nil_append]
  cases fuel <;> rfl

end

/-! ### What a run of offers leaves alone -/

/-- The log, the directory and the mailbox are as before, and no event flag has been cleared. -/
structure OffersKept (s t : State) : Prop where
  history : t.history = s.history
  directory : t.directory = s.directory
  running : t.port.running = s.port.running
  result : t.port.result = s.port.result
  flags : ∀ e, s.hasEvent e = true → t.hasEvent e = true

theorem OffersKept.refl (s : State) : OffersKept s s := ⟨rfl, rfl, rfl, rfl, fun _ h => h⟩

theorem OffersKept.trans {s t u : State} (h : OffersKept s t) (k : OffersKept t u) : OffersKept s u :=
  ⟨k.history.trans h.history, k.directory.trans h.directory, k.running.trans h.running, k.result.trans h.result,
    fun e he => k.flags e (h.flags e he)⟩

theorem OffersKept.of_port {s t : State} (hh : t.history = s.history) (hd : t.directory = s.directory)
    (hp : t.port = s.port) : OffersKept s t :=
  ⟨hh, hd, by rw [hp], by rw [hp], fun e he => by rwa [State.hasEvent, hp]⟩

theorem offersKept_offer (n : Notice) (source : Source) (s : State) : OffersKept s (offer n source s).1 := by
  rcases offer_cases n source s with ⟨_, e⟩ | ⟨_, e⟩ | ⟨_, _, e⟩ <;> rw [e]
  · exact .refl s
  · exact ⟨rfl, rfl, rfl, rfl, fun e he => hasEvent_setEvent_of e .qfull s he⟩
  · exact .of_port rfl rfl rfl

theorem offersKept_freeSpaceOffers (s : State) : OffersKept s (freeSpaceOffers s).1 := by
  unfold freeSpaceOffers
  extract_lets held
  split
  · exact .refl s
  · exact .of_port rfl rfl rfl

theorem offersKept_withdrawClear (p : Nat) (s : State) : OffersKept s (withdrawClear p s).1 := by
  unfold withdrawClear
  extract_lets s1
  have h : OffersKept s s1 := .of_port rfl rfl rfl
  split
  · exact h.trans (offersKept_freeSpaceOffers s1)
  · exact h

theorem offersKept_offerInput (p : Nat) (s : State) : OffersKept s (offerInput p s).1 := by
  unfold offerInput
  dsimp only
  split
  · split
    · split
      · split
        · exact .refl s
        · exact offersKept_withdrawClear p s
      · exact offersKept_offer _ _ s
    · split <;> exact offersKept_offer _ _ s
  · exact .refl s

theorem offersKept_offerHeldAck (s : State) : OffersKept s (offerHeldAck s) := by
  unfold offerHeldAck
  dsimp only
  split
  · split
    · exact (offersKept_offer _ _ s).trans (.of_port rfl rfl rfl)
    · exact offersKept_offer _ _ s
  · exact .refl s

theorem offersKept_offerHeldReset (s : State) : OffersKept s (offerHeldReset s) := by
  unfold offerHeldReset
  dsimp only
  split
  · split
    · exact (offersKept_offer _ _ s).trans (.of_port rfl rfl rfl)
    · exact offersKept_offer _ _ s
  · exact .refl s

theorem offersKept_runOffer (t : OfferTask) (s : State) : OffersKept s (runOffer t s).1 := by
  cases t with
  | input p => exact offersKept_offerInput p s
  | heldAck => exact offersKept_offerHeldAck s
  | heldReset => exact offersKept_offerHeldReset s

theorem offersKept_runOffers (fuel : Nat) (ts : List OfferTask) (s : State) : OffersKept s (runOffers fuel ts s) := by
  induction fuel generalizing ts s with
  | zero => exact .refl s
  | succ fuel ih =>
    cases ts with
    | nil => exact .refl s
    | cons t ts => exact (offersKept_runOffer t s).trans (ih _ _)

theorem offersKept_offersAfter (freed : Bool) (points : List Nat) (s : State) :
    OffersKept s (offersAfter freed points s) := by
  unfold offersAfter
  split
  · exact (offersKept_freeSpaceOffers s).trans (offersKept_runOffers _ _ _)
  · exact offersKept_runOffers _ _ s

end Sys2Proof.Machine
end

section
/-! The aging of the queue at a MARK (R71): which notices stay, what the discarded ones do to their sources, and the notices
that come anew. -/

namespace Sys2Proof.Machine

open Sys2Proof

/-! ### Which notices stay -/

/-- A notice one MARK later (R71). -/
def QueuedNotice.older (q : QueuedNotice) : QueuedNotice := { q with age := q.age + 1 }

/-- The notices that the MARK leaves in the queue, in order. -/
def State.staying (s : State) : List QueuedNotice := (s.notices.filter (fun q => q.age < 7)).map QueuedNotice.older

/-- The notices whose age reaches 8 at the MARK, in order. -/
def State.agedOut (s : State) : List QueuedNotice := (s.notices.filter (fun q => 7 ≤ q.age)).map QueuedNotice.older

theorem filter_older_young (qs : List QueuedNotice) :
    (qs.map QueuedNotice.older).filter (fun q => q.age < 8) = (qs.filter (fun q => q.age < 7)).map QueuedNotice.older := by
  rw [List.filter_map]
  congr 2
  funext q
  exact decide_eq_decide.mpr (show q.age + 1 < 8 ↔ q.age < 7 by omega)

theorem filter_older_aged (qs : List QueuedNotice) :
    (qs.map QueuedNotice.older).filter (fun q => 8 ≤ q.age) = (qs.filter (fun q => 7 ≤ q.age)).map QueuedNotice.older := by
  rw [List.filter_map]
  congr 2
  funext q
  exact decide_eq_decide.mpr (show 8 ≤ q.age + 1 ↔ 7 ≤ q.age by omega)

theorem agedOut_eq_nil {s : State} : s.agedOut = [] ↔ ∀ q ∈ s.notices, q.age < 7 := by
  simp [State.agedOut]

theorem older_mem_agedOut {s : State} {q : QueuedNotice} (hq : q ∈ s.notices) (h : 7 ≤ q.age) : q.older ∈ s.agedOut :=
  List.mem_map_of_mem (List.mem_filter.mpr ⟨hq, by simpa using h⟩)

theorem staying_of_young {s : State} (h : ∀ q ∈ s.notices, q.age < 7) : s.staying = s.notices.map QueuedNotice.older := by
  rw [State.staying, List.filter_eq_self.mpr (by simpa using h)]

theorem staying_length (s : State) : s.staying.length ≤ s.notices.length := by
  rw [State.staying, List.length_map]
  exact List.length_filter_le _ _

/-! ### The aging in its parts -/

/-- What a JOIN that is discarded by age asks for anew (R110). -/
def joinNeed (q : QueuedNotice) : Option Bool :=
  match q.notice with
  | .join need => some need
  | _ => none

/-- The queue with the discarded notices gone, logged and felt by their sources (R71, R159). -/
def discardAged (c : Nat) (s : State) : State :=
  discardEffects s.agedOut (recordOwn .queueAged ⟨c, 0, 0⟩ (some s.agedOut.length) { s with notices := s.staying })

/-- The discarded JOINs appended anew (R110). -/
def requeueJoins (qs : List QueuedNotice) (s : State) : State :=
  (qs.filterMap joinNeed).foldl (fun s need => appendNotice (.join need) .link s) s

theorem ageQueue_quiet {c : Nat} {s : State} (h : s.agedOut = []) : ageQueue c s = { s with notices := s.staying } := by
  have hgone : (s.notices.map QueuedNotice.older).filter (fun q => 8 ≤ q.age) = [] := (filter_older_aged _).trans h
  refine (if_pos hgone).trans ?_
  rw [State.staying, ← filter_older_young]
  rfl

theorem ageQueue_loud {c : Nat} {s : State} (h : s.agedOut ≠ []) : ageQueue c s =
    offersAfter (freesSpace s { s with notices := s.staying }) (inputPoints s.agedOut)
      (requeueJoins s.agedOut (discardAged c s)) := by
  have hgone : (s.notices.map QueuedNotice.older).filter (fun q => 8 ≤ q.age) = s.agedOut := filter_older_aged _
  refine (if_neg (by rwa [← hgone] at h)).trans ?_
  rw [discardAged, State.staying, ← filter_older_young, ← hgone]
  rfl

/-! ### The sources of discarded notices -/

/-- What every step of a walk keeps and one of them brings about holds after the walk. -/
theorem foldl_brings {α : Type} {P : State → Prop} (f : State → α → State) (hkeep : ∀ s x, P s → P (f s x)) {x : α}
    {xs : List α} (hx : x ∈ xs) (hbring : ∀ s, P (f s x)) (s : State) : P (xs.foldl f s) := by
  obtain ⟨before, after, rfl⟩ := List.append_of_mem hx
  rw [List.foldl_append]
  exact foldl_keeps f hkeep after _ (hbring _)

/-- Discarding reaches the directory and the mailbox only. -/
theorem discardEffects_frame (qs : List QueuedNotice) (s : State) : discardEffects qs s =
    { s with directory := (discardEffects qs s).directory, port := (discardEffects qs s).port } := by
  refine foldl_keeps (P := fun t => t = { s with directory := t.directory, port := t.port }) _ (fun t q ht => ?_) qs s rfl
  have hcomplete : ∀ b : Bool, (if b then complete .aborted [] t else t) =
      { s with directory := t.directory, port := (if b then complete .aborted [] t else t).port } := by
    intro b
    cases b
    · exact ht
    · show complete .aborted [] t = { s with directory := t.directory, port := (complete .aborted [] t).port }
      rw [ht]
      rfl
  unfold discardEffect
  dsimp only
  rw [hcomplete]
  split <;> rfl

/-- The last command has completed ABORTED, with CMDDONE. -/
structure State.Aborted (s : State) : Prop where
  running : s.port.running = none
  result : s.port.result = .aborted
  cmddone : s.hasEvent .cmddone = true

theorem aborted_complete (s : State) : (complete .aborted [] s).Aborted := ⟨rfl, rfl, hasEvent_setEvent_same _ _⟩

theorem State.Aborted.of_port {s t : State} (h : s.Aborted) (hp : t.port = s.port) : t.Aborted :=
  ⟨hp ▸ h.running, hp ▸ h.result, by rw [State.hasEvent, hp]; exact h.cmddone⟩

theorem discardEffect_port (q : QueuedNotice) (s : State) :
    (discardEffect q s).port = (if q.cmdMark then complete .aborted [] s else s).port := by
  unfold discardEffect
  dsimp only
  split <;> rfl

theorem aborted_discardEffects {qs : List QueuedNotice} {q : QueuedNotice} (hq : q ∈ qs) (hmark : q.cmdMark = true)
    (s : State) : (discardEffects qs s).Aborted := by
  refine foldl_brings _ (fun t x ht => ?_) hq (fun t => ?_) s
  · refine State.Aborted.of_port ?_ (discardEffect_port x t)
    split
    · exact aborted_complete t
    · exact ht
  · refine State.Aborted.of_port (aborted_complete t) ?_
    rw [discardEffect_port, if_pos hmark]

theorem resync_modifyEntry_none {f : DirEntry → DirEntry} (hf : ∀ e, (f e).resync = none) (k : Nat) (s : State) :
    ((s.modifyEntry k f).entry k).resync = none := by
  show (tableGet (tableSet s.directory (placeOf k 24) _) (placeOf k 24) DirEntry.reset).resync = none
  rw [tableGet_tableSet]
  split
  · exact hf _
  · rename_i hout
    rw [tableGet, dif_neg (by simpa using hout)]
    rfl

theorem discardEffect_directory_keeps {k : Nat} (q : QueuedNotice) {s : State} (h : (s.entry k).resync = none) :
    ((discardEffect q s).entry k).resync = none := by
  have hcomplete : ((if q.cmdMark then complete .aborted [] s else s).entry k).resync = none := by
    split
    · exact h
    · exact h
  unfold discardEffect
  dsimp only
  split
  · exact tableGet_tableSet_of (p := fun e : DirEntry => e.resync = none) _ _ _ _ _ rfl hcomplete
  · exact hcomplete

theorem resync_discardEffects {qs : List QueuedNotice} {q : QueuedNotice} {k : Nat} (hq : q ∈ qs)
    (hk : q.notice = .resyncRequest k) (s : State) : ((discardEffects qs s).entry k).resync = none := by
  refine foldl_brings (P := fun t => (t.entry k).resync = none) _ (fun t x ht => discardEffect_directory_keeps x ht) hq
    (fun t => ?_) s
  simp only [discardEffect, hk]
  exact resync_modifyEntry_none (fun _ => rfl) k _

/-! ### After the discard -/

theorem discardAged_frame (c : Nat) (s : State) : discardAged c s = { s with
    notices := s.staying
    history := s.history.append
      { stamp := ⟨c, 0, 0⟩, kind := .queueAged, station := s.own, count := some s.agedOut.length }
    directory := (discardAged c s).directory
    port := (discardAged c s).port } := by
  rw [discardAged, discardEffects_frame, recordOwn, recordHistory_eq]
  rfl

/-- The notice that a JOIN appended anew becomes. -/
def queuedJoin (need : Bool) : QueuedNotice :=
  { notice := .join need, source := .link, age := 0, inFlight := false, cmdMark := false }

theorem foldl_appendJoin (js : List Bool) (s : State) :
    js.foldl (fun s need => appendNotice (.join need) .link s) s = { s with notices := s.notices ++ js.map queuedJoin } := by
  induction js generalizing s with
  | nil => rw [List.foldl_nil, List.map_nil, List.append_nil]
  | cons j js ih =>
    rw [List.foldl_cons, ih, List.map_cons, List.append_cons]
    rfl

theorem requeueJoins_eq (qs : List QueuedNotice) (s : State) :
    requeueJoins qs s = { s with notices := s.notices ++ (qs.filterMap joinNeed).map queuedJoin } := foldl_appendJoin _ s

/-- What the aging of the queue keeps after its discards: the offers touch neither the log, the directory nor the mailbox. -/
theorem offersKept_ageQueue {c : Nat} {s : State} (h : s.agedOut ≠ []) : OffersKept (discardAged c s) (ageQueue c s) := by
  rw [ageQueue_loud h]
  refine OffersKept.trans ?_ (offersKept_offersAfter _ _ _)
  rw [requeueJoins_eq]
  exact .of_port rfl rfl rfl

theorem freesSpace_of_room {s : State} (t : State) (h : s.notices.length < 12) : freesSpace s t = false := by
  rw [freesSpace, queueFull_of_room h, Bool.false_and]

/-! ### The own points that discarded notices name -/

theorem inputPoints_cons (q : QueuedNotice) (qs : List QueuedNotice) :
    inputPoints (q :: qs) = inputPoints [q] ++ inputPoints qs := List.filterMap_append (l := [q])

theorem inputPoints_older (qs : List QueuedNotice) : inputPoints (qs.map QueuedNotice.older) = inputPoints qs :=
  List.filterMap_map

theorem inputPoints_eq_nil {qs : List QueuedNotice} (h : ∀ q ∈ qs, inputPoints [q] = []) : inputPoints qs = [] := by
  induction qs with
  | nil => rfl
  | cons q qs ih =>
    rw [inputPoints_cons, h q List.mem_cons_self, ih (fun x hx => h x (List.mem_cons_of_mem _ hx)), List.append_nil]

theorem inputPoints_agedOut {s : State} (h : ∀ q ∈ s.notices, 7 ≤ q.age → inputPoints [q] = []) :
    inputPoints s.agedOut = [] := by
  rw [State.agedOut, inputPoints_older]
  refine inputPoints_eq_nil fun q hq => ?_
  obtain ⟨hmem, hage⟩ := List.mem_filter.mp hq
  exact h q hmem (of_decide_eq_true hage)

/-- Without a notice for an input among the discarded ones, the queue has what stays and the JOINs that come anew. -/
theorem ageQueue_notices {c : Nat} {s : State} (hroom : s.notices.length < 12)
    (h : ∀ q ∈ s.notices, 7 ≤ q.age → inputPoints [q] = []) :
    (ageQueue c s).notices = s.staying ++ (s.agedOut.filterMap joinNeed).map queuedJoin := by
  by_cases hgone : s.agedOut = []
  · rw [ageQueue_quiet hgone, hgone, List.filterMap_nil, List.map_nil, List.append_nil]
  · rw [ageQueue_loud hgone, inputPoints_agedOut h, freesSpace_of_room _ hroom, requeueJoins_eq, discardAged_frame]
    rfl

/-! ### One notice of an input discarded -/

section
variable {s : State} {p : Nat} {q : QueuedNotice}

/-- The only notice for p is the only one discarded. -/
theorem agedOut_single (hfor : s.noticesFor p = [q]) (hage : 7 ≤ q.age) (honly : ∀ x ∈ s.notices, 7 ≤ x.age → x = q) :
    s.agedOut = [q.older] := by
  have hq : (conditionFor p q).isSome = true :=
    (List.mem_filter.mp (show q ∈ s.noticesFor p from hfor ▸ List.mem_singleton_self q)).2
  have hfilter : s.notices.filter (fun x => 7 ≤ x.age) = (s.noticesFor p).filter (fun x => 7 ≤ x.age) := by
    rw [State.noticesFor, List.filter_filter]
    refine List.filter_congr fun x hx => ?_
    by_cases h7 : 7 ≤ x.age
    · rw [honly x hx h7, hq, Bool.and_true]
    · rw [decide_eq_false h7, Bool.false_and]
  rw [State.agedOut, hfilter, hfor, List.filter_cons, if_pos (decide_eq_true hage), List.filter_nil]
  rfl

theorem noticesFor_staying (hfor : s.noticesFor p = [q]) (hage : 7 ≤ q.age) :
    s.staying.filter (fun x => (conditionFor p x).isSome) = [] := by
  have hswap : s.staying.filter (fun x => (conditionFor p x).isSome)
      = ((s.noticesFor p).filter (fun x => x.age < 7)).map QueuedNotice.older := by
    rw [State.staying, List.filter_map, List.filter_filter, State.noticesFor, List.filter_filter]
    congr 2
    funext x
    exact Bool.and_comm _ _
  have hold : ¬ decide (q.age < 7) = true := by rw [decide_eq_true_eq]; exact Nat.not_lt.mpr hage
  rw [hswap, hfor, List.filter_cons, if_neg hold, List.filter_nil, List.map_nil]

/-- A discarded notice for p is compared again once it is gone (R69, R71). -/
theorem ageQueue_compares {c : Nat} (hfor : s.noticesFor p = [q]) (hage : 7 ≤ q.age)
    (honly : ∀ x ∈ s.notices, 7 ≤ x.age → x = q) (hroom : s.notices.length < 12) :
    ageQueue c s = runOffers 400 [.input p] (discardAged c s) := by
  have hgone := agedOut_single hfor hage honly
  have hq : (conditionFor p q).isSome = true :=
    (List.mem_filter.mp (show q ∈ s.noticesFor p from hfor ▸ List.mem_singleton_self q)).2
  have hnamed : inputPoints [q.older] = [p] ∧ joinNeed q.older = none := by
    obtain ⟨o, a, hq | hq⟩ := conditionFor_isSome hq <;> simp [inputPoints, joinNeed, QueuedNotice.older, hq]
  rw [ageQueue_loud (by simp [hgone]), freesSpace_of_room _ hroom, hgone, hnamed.1, requeueJoins_eq,
    List.filterMap_cons_none hnamed.2, List.filterMap_nil, List.map_nil, List.append_nil]
  rfl

/-- What the comparison after the discard finds: no notice for p, and everything else it reads as it was. -/
structure ReadyToCompare (c p : Nat) (s : State) : Prop where
  link : (discardAged c s).link.state = s.link.state
  config : (discardAged c s).inputConfig p = s.inputConfig p
  input : (discardAged c s).input p = s.input p
  occurrence : (discardAged c s).ownOccurrence p = s.ownOccurrence p
  notices : (discardAged c s).notices = s.staying
  unqueued : (discardAged c s).noticesFor p = []

theorem readyToCompare (c : Nat) (hfor : s.noticesFor p = [q]) (hage : 7 ≤ q.age) : ReadyToCompare c p s := by
  have hnone : (discardAged c s).noticesFor p = [] := by
    rw [discardAged_frame]
    exact noticesFor_staying hfor hage
  refine ⟨?_, ?_, ?_, ?_, ?_, hnone⟩ <;> rw [discardAged_frame] <;> rfl

end

/-- Settles O19: what stays and what is discarded by `ageQueue_quiet` and `ageQueue_loud`; the log, the mailbox and the
directory by what the discards do to them and the offers after them leave alone; the notices that come anew by
`ageQueue_notices` and by the one comparison of the input whose notice is gone. -/
theorem noticesAgeAtAMark : Obligations.NoticesAgeAtAMark := by
  intro c s t stay queued
  have loud {q : QueuedNotice} (hq : q ∈ s.notices) (h7 : 7 ≤ q.age) : s.agedOut ≠ [] :=
    List.ne_nil_of_mem (older_mem_agedOut hq h7)
  refine ⟨fun hyoung => ?_, fun ⟨q, hq, h7⟩ => ?_, fun ⟨q, hq, h7, hmark⟩ => ?_, fun q hq h7 k hk => ?_,
    fun hroom hno => ?_, fun p q hfor hage honly hroom hs hu => ?_⟩
  · show ageQueue c s = _
    rw [ageQueue_quiet (agedOut_eq_nil.mpr hyoung), staying_of_young hyoung]
    rfl
  · refine (offersKept_ageQueue (loud hq h7)).history.trans ?_
    rw [discardAged_frame, State.agedOut, List.length_map, List.countP_eq_length_filter]
  · have kept := offersKept_ageQueue (c := c) (loud hq h7)
    have done : (discardAged c s).Aborted := aborted_discardEffects (older_mem_agedOut hq h7) hmark _
    exact ⟨kept.running.trans done.running, kept.result.trans done.result, kept.flags _ done.cmddone⟩
  · have kept := offersKept_ageQueue (c := c) (loud hq h7)
    have dropped : ((discardAged c s).entry k).resync = none := resync_discardEffects (older_mem_agedOut hq h7) hk _
    exact (congrArg DirEntry.resync (State.entry_of_directory kept.directory k)).trans dropped
  · refine (ageQueue_notices hroom hno).trans (congrArg (stay ++ ·) ?_)
    rw [State.agedOut, List.filterMap_map, List.map_filterMap]
    refine congrArg (List.filterMap · _) (funext fun q => ?_)
    show (joinNeed q).map queuedJoin = _
    unfold joinNeed
    cases q.notice <;> rfl
  · have ready := readyToCompare c hfor hage
    have hrun : (discardAged c s).link.state = .running := ready.link.trans hs
    have hused : ((discardAged c s).inputConfig p).used = true := by rw [ready.config, hu]
    have hfiltered : (discardAged c s).filteredActive p = s.filteredActive p := by
      rw [State.filteredActive, ready.input]
      rfl
    have hspace : (discardAged c s).notices.length < 12 := by
      rw [ready.notices]
      exact Nat.lt_of_le_of_lt (staying_length s) hroom
    have hcompare : t = runOffers 400 [.input p] (discardAged c s) := ageQueue_compares hfor hage honly hroom
    refine ⟨fun hf ha => ?_, fun hf ha => ?_, fun hsame => ?_⟩
    · rw [hcompare, runOffers_one _ (offerInput_raise hrun hused ready.unqueued (hfiltered.trans hf) (by rw [ready.input, ha])),
        offer_room _ _ hrun hspace, ready.occurrence, ready.config]
      exact congrArg (· ++ _) ready.notices
    · rw [hcompare, runOffers_one _ (offerInput_clear hrun hused ready.unqueued (hfiltered.trans hf) (by rw [ready.input, ha])),
        offer_room _ _ hrun hspace, ready.occurrence, ready.config]
      exact congrArg (· ++ _) ready.notices
    · rw [hcompare, runOffers_one _ (offerInput_same hrun hused ready.unqueued (by rw [hfiltered, ready.input, hsame]))]
      exact ready.notices

end Sys2Proof.Machine
end

section
/-! An input event that withdraws its CLEAR from a full queue (R67, R69, R70), and why O8 fails there: the freed place is
offered to the panel too, and O8 puts no condition on what the panel holds. Where it holds nothing for the input, as after
any press (R62), what O8 says of that withdrawal is true. -/

namespace Sys2Proof.Machine

open Sys2Proof

theorem exec_inputEvent (p : Nat) (s : State) : exec (.inputEvent p) s = whenUp s (inputEvent p) := rfl

theorem permute_two {α : Type} (n : Nat) (x y : α) : permute n [x, y] = [x, y] ∨ permute n [x, y] = [y, x] := by
  have hlast (k : Nat) (z : α) : insertAtPlace k z [] = [z] := by cases k <;> rfl
  simp only [permute, hlast]
  cases n % ([y].length + 1) with
  | zero => exact .inl rfl
  | succ k => exact .inr (by rw [insertAtPlace, hlast])

/-! ### The withdrawal -/

section
variable {s : State} {p : Nat} {q : List QueuedNotice} {c : QueuedNotice}

theorem lastFor_append (h : s.noticesFor p = q ++ [c]) : s.lastFor p = some c := by
  rw [lastFor_eq, h, List.getLast?_concat]

/-- A CLEAR that is not in flight, last queued for an active input, is withdrawn (R70). -/
theorem offerInput_withdraws (hs : s.link.state = .running) (hu : (s.inputConfig p).used = true)
    (hfor : s.noticesFor p = q ++ [c]) (hc : conditionFor p c = some false) (hfly : c.inFlight = false)
    (hf : s.filteredActive p = true) : offerInput p s = withdrawClear p s := by
  have hprojected : s.projected p = false := by
    rw [State.projected, lastFor_append hfor]
    simp [hc]
  have hchange : s.hasChange p = true := by rw [hasChange_eq hs hu, hf, hprojected]; rfl
  simp only [offerInput, hchange, hf, lastFor_append hfor, hfly, if_true, Bool.false_eq_true, if_false]

/-- The queue and the chatter count after the withdrawal of the CLEAR for p. -/
def withoutClear (p : Nat) (s : State) : State :=
  ({ s with notices := s.notices.eraseP (fun q => conditionFor p q = some false) }).modifyInput p
    (fun i => { i with chatter := saturate 255 i.chatter })

/-- From a full queue the withdrawal brings every offer that free space brings (R67). -/
theorem inputEvent_withdraws_full (hs : s.link.state = .running) (hu : (s.inputConfig p).used = true) (hp : p ≤ 15)
    (hfor : s.noticesFor p = q ++ [c]) (hc : conditionFor p c = some false) (hfly : c.inFlight = false)
    (hf : s.filteredActive p = true) (hfull : 12 ≤ s.notices.length) :
    inputEvent p s = runOffers 399 (freeSpaceOffers (withoutClear p s)).2 (freeSpaceOffers (withoutClear p s)).1 := by
  have hoffer : offerInput p s = freeSpaceOffers (withoutClear p s) :=
    (offerInput_withdraws hs hu hfor hc hfly hf).trans (if_pos (queueFull_iff.mpr hfull))
  rw [inputEvent, if_pos hp]
  show runOffers 399 ((offerInput p s).2 ++ []) (offerInput p s).1 = _
  rw [hoffer, List.append_nil]

end

/-! ### The withdrawal where the panel holds nothing for the input -/

/-- The panel holds no RAISE or CLEAR for p; what a button forms is an ACK-UPTO or a RESET-UPTO (R62). -/
def State.PanelApart (p : Nat) (s : State) : Prop :=
  ∀ x : QueuedNotice, s.panel.heldAck = some x.notice ∨ s.panel.heldReset = some x.notice → conditionFor p x = none

/-- What is queued and held for p, and its input, are as before, and the panel holds nothing for p. -/
structure ApartFrom (p : Nat) (s t : State) : Prop where
  queued : t.noticesFor p = s.noticesFor p
  input : t.input p = s.input p
  panel : t.PanelApart p

theorem ApartFrom.trans {p : Nat} {s t u : State} (h : ApartFrom p s t) (k : ApartFrom p t u) : ApartFrom p s u :=
  ⟨k.queued.trans h.queued, k.input.trans h.input, k.panel⟩

/-- The comparison of p reads its input and what is queued for it. -/
theorem ApartFrom.projected {p : Nat} {s t : State} (h : ApartFrom p s t) : t.projected p = s.projected p := by
  rw [State.projected, State.projected, lastFor_eq, lastFor_eq, h.queued, h.input]

theorem ApartFrom.filteredActive {p : Nat} {s t : State} (h : ApartFrom p s t) : t.filteredActive p = s.filteredActive p := by
  rw [State.filteredActive, State.filteredActive, h.input]

section
variable {s : State} {p : Nat}

theorem apart_refl (h : s.PanelApart p) : ApartFrom p s s := ⟨rfl, rfl, h⟩

theorem apart_offer {n : Notice} {source : Source} (hn : ∀ x : QueuedNotice, x.notice = n → conditionFor p x = none)
    (h : s.PanelApart p) : ApartFrom p s (offer n source s).1 := by
  rcases offer_cases n source s with ⟨_, e⟩ | ⟨_, e⟩ | ⟨_, _, e⟩ <;> rw [e]
  · exact apart_refl h
  · exact ⟨rfl, rfl, h⟩
  · refine ⟨?_, rfl, h⟩
    show (s.notices ++ [_]).filter _ = s.notices.filter _
    rw [List.filter_append, List.filter_cons_of_neg (by simp [hn]), List.filter_nil, List.append_nil]

theorem apart_freeSpaceOffers (h : s.PanelApart p) : ApartFrom p s (freeSpaceOffers s).1 := by
  unfold freeSpaceOffers
  extract_lets held
  split
  · exact apart_refl h
  · exact ⟨rfl, rfl, h⟩

/-- A notice for one own point is a notice for no other. -/
theorem conditionFor_other {j : Nat} (hj : j ≠ p) {x : QueuedNotice} (h : (conditionFor j x).isSome = true) :
    conditionFor p x = none := by
  obtain ⟨o, a, hx | hx⟩ := conditionFor_isSome h <;> simp [conditionFor, hx, hj]

theorem filter_eraseP_of_not {α : Type} {f g : α → Bool} (h : ∀ x, f x = true → g x = false) (l : List α) :
    (l.eraseP f).filter g = l.filter g := by
  obtain e | ⟨a, l₁, l₂, -, ha, hl, e⟩ := List.exists_or_eq_self_of_eraseP f l
  · rw [e]
  · rw [e, hl, List.filter_append, List.filter_append, List.filter_cons_of_neg (by simp [h a ha])]

theorem apart_withoutClear {j : Nat} (hj : j ≠ p) (h : s.PanelApart p) : ApartFrom p s (withoutClear j s) := by
  refine ⟨?_, tableGet_tableSet_other _ _ _ _ _ hj, h⟩
  show (s.notices.eraseP (fun x => conditionFor j x = some false)).filter (fun x => (conditionFor p x).isSome) = _
  refine filter_eraseP_of_not (fun x hx => ?_) s.notices
  rw [conditionFor_other hj (by rw [of_decide_eq_true hx]; rfl)]
  rfl

theorem apart_offerInput {j : Nat} (hj : j ≠ p) (h : s.PanelApart p) : ApartFrom p s (offerInput j s).1 := by
  have hraise (o : Nat) (a : Attributes) (x : QueuedNotice) (hx : x.notice = .raise j o a) : conditionFor p x = none := by
    simp [conditionFor, hx, hj]
  have hclear (o : Nat) (a : Attributes) (x : QueuedNotice) (hx : x.notice = .clear j o a) : conditionFor p x = none := by
    simp [conditionFor, hx, hj]
  have hwithdraw : ApartFrom p s (withdrawClear j s).1 := by
    have hgone := apart_withoutClear hj h
    show ApartFrom p s (if s.queueFull then freeSpaceOffers (withoutClear j s) else (withoutClear j s, _)).1
    split
    · exact hgone.trans (apart_freeSpaceOffers hgone.panel)
    · exact hgone
  unfold offerInput
  dsimp only
  split
  · split
    · split
      · split
        · exact apart_refl h
        · exact hwithdraw
      · exact apart_offer (hraise _ _) h
    · split <;> exact apart_offer (hclear _ _) h
  · exact apart_refl h

theorem apart_offerHeldAck (h : s.PanelApart p) : ApartFrom p s (offerHeldAck s) := by
  unfold offerHeldAck
  split
  · rename_i n hn
    have hoffer := apart_offer (source := .ackButton) (fun x hx => h x (.inl (hn.trans (congrArg some hx.symm)))) h
    dsimp only
    split
    · exact ⟨hoffer.queued, hoffer.input, fun x hx => hoffer.panel x (hx.imp (fun e => nomatch e) id)⟩
    · exact hoffer
  · exact apart_refl h

theorem apart_offerHeldReset (h : s.PanelApart p) : ApartFrom p s (offerHeldReset s) := by
  unfold offerHeldReset
  split
  · rename_i n hn
    have hoffer := apart_offer (source := .resetButton) (fun x hx => h x (.inr (hn.trans (congrArg some hx.symm)))) h
    dsimp only
    split
    · exact ⟨hoffer.queued, hoffer.input, fun x hx => hoffer.panel x (hx.imp id (fun e => nomatch e))⟩
    · exact hoffer
  · exact apart_refl h

/-- While p has no change to offer, no task of a run of offers reaches what is queued for it. -/
theorem apart_runOffers (fuel : Nat) (ts : List OfferTask) (h : s.PanelApart p) (hsame : s.filteredActive p = s.projected p) :
    ApartFrom p s (runOffers fuel ts s) := by
  induction fuel generalizing ts s with
  | zero => exact apart_refl h
  | succ fuel ih =>
    cases ts with
    | nil => exact apart_refl h
    | cons task ts =>
      have hstep : ApartFrom p s (runOffer task s).1 := by
        cases task with
        | heldAck => exact apart_offerHeldAck h
        | heldReset => exact apart_offerHeldReset h
        | input j =>
          by_cases hj : j = p
          · have hquiet : s.hasChange j = false := by simp [State.hasChange, hj, hsame]
            show ApartFrom p s (offerInput j s).1
            rw [offerInput_unchanged hquiet]
            exact apart_refl h
          · exact apart_offerInput hj h
      exact hstep.trans (ih _ hstep.panel (by
        rw [hstep.projected, hstep.filteredActive, hsame]))

theorem noticesFor_withoutClear {q : List QueuedNotice} {c : QueuedNotice} (hfor : s.noticesFor p = q ++ [c])
    (hc : conditionFor p c = some false) (hq : ∀ x ∈ q, conditionFor p x = some true) :
    (withoutClear p s).noticesFor p = q := by
  have hmine : (fun x => decide (conditionFor p x = some false) && (conditionFor p x).isSome)
      = fun x => decide (conditionFor p x = some false) := by
    funext x
    cases conditionFor p x with
    | none => rfl
    | some b => exact Bool.and_true _
  have hcommute : (withoutClear p s).noticesFor p = (s.noticesFor p).eraseP (fun x => conditionFor p x = some false) := by
    rw [State.noticesFor, State.noticesFor, List.eraseP_filter, hmine]
    rfl
  rw [hcommute, hfor, List.eraseP_append_right _ (fun x hx => by simp [hq x hx]), List.eraseP_cons_of_pos (by simp [hc]),
    List.append_nil]

theorem input_withoutClear (hp : p ≤ 15) (s : State) :
    (withoutClear p s).input p = { s.input p with chatter := saturate 255 (s.input p).chatter } :=
  tableGet_tableSet_same _ _ _ _ (by omega)

/-- The clause of O8 that fails holds where the panel holds nothing for the input, as a panel whose buttons made what it
holds does (R62, R68): the CLEAR is gone, the rest for the input stays, and the chatter count has risen by one. -/
theorem inputEvent_withdraws_apart {q : List QueuedNotice} {c : QueuedNotice} (hs : s.link.state = .running)
    (hu : (s.inputConfig p).used = true) (hp : p ≤ 15) (hfor : s.noticesFor p = q ++ [c])
    (hc : conditionFor p c = some false) (hfly : c.inFlight = false) (hf : s.filteredActive p = true)
    (hq : (q = [] ∧ (s.input p).announced = true) ∨ ∃ r, q = [r] ∧ conditionFor p r = some true)
    (hfull : 12 ≤ s.notices.length) (hpanel : s.PanelApart p) :
    (inputEvent p s).noticesFor p = q ∧ ((inputEvent p s).input p).chatter = saturate 255 (s.input p).chatter := by
  have hraises : ∀ x ∈ q, conditionFor p x = some true := by
    rcases hq with ⟨rfl, -⟩ | ⟨r, rfl, hr⟩
    · exact fun x hx => absurd hx List.not_mem_nil
    · exact fun x hx => List.mem_singleton.mp hx ▸ hr
  have hleft := noticesFor_withoutClear hfor hc hraises
  have hinput := input_withoutClear hp s
  have hprojected : (withoutClear p s).projected p = true := by
    rcases hq with ⟨rfl, hannounced⟩ | ⟨r, rfl, hr⟩
    · rw [projected_of_none hleft, hinput, hannounced]
    · rw [State.projected, lastFor_append (q := []) hleft]
      exact decide_eq_true hr
  have hactive : (withoutClear p s).filteredActive p = true := by
    rw [State.filteredActive, hinput]
    exact hf
  have hfree : ApartFrom p (withoutClear p s) (freeSpaceOffers (withoutClear p s)).1 := apart_freeSpaceOffers hpanel
  have hrun : ApartFrom p (withoutClear p s) (inputEvent p s) := by
    rw [inputEvent_withdraws_full hs hu hp hfor hc hfly hf hfull]
    exact hfree.trans (apart_runOffers _ _ hfree.panel (by rw [hfree.projected, hfree.filteredActive, hprojected, hactive]))
  exact ⟨hrun.queued.trans hleft, by rw [hrun.input, hinput]⟩

end

/-! ### The refutation -/

/-- Every input of the refuting state: used, ALARM, MANUAL-RESET. -/
def usedInput : InputConfig := ⟨true, false, 0, ⟨.alarm, .manualReset, 0⟩⟩

/-- The CLEAR that the refuting state withdraws. -/
def clearOf15 : QueuedNotice := ⟨.clear 15 0 usedInput.attrs, .input, 0, false, false⟩

/-- Station 1 of 2. -/
def stationOne : Image :=
  { address := 1, slots := 2, rate := .kbit250, zone := 1, viewMask := 0xFF, tripMask := 0, promote := false,
    inputs := .replicate 16 usedInput, windows := .replicate 24 none, unlock := 0 }

/-- A RUNNING station whose full queue ends with the CLEAR of input 15, active again, and whose panel holds a RAISE of that
input in the place of an ACK notice. -/
def raiseHeld : State :=
  { State.reset with
      link := { Link.reset with state := .running }
      loader := { Loader.reset with state := .delivered, image := some stationOne }
      scanner := tableSet State.reset.scanner 15 { InputState.reset with filtered := .active, announced := true }
      panel := { Panel.reset with heldAck := some (.raise 15 1 usedInput.attrs) }
      notices := .replicate 11 ⟨.shelve 1 0, .command, 0, false, false⟩ ++ [clearOf15] }

/-- In either order of the offers the held RAISE takes the free place. -/
theorem raiseHeld_offers {tasks : List OfferTask} (h : tasks = scannerSweep ++ [.heldAck] ∨ tasks = .heldAck :: scannerSweep) :
    (runOffers 399 tasks { withoutClear 15 raiseHeld with choices := 1 }).noticesFor 15 =
      [⟨.raise 15 1 usedInput.attrs, .ackButton, 0, false, false⟩] := by
  rcases h with rfl | rfl <;> decide +kernel

/-- Refutes O8, by its clause on the withdrawal from a full queue: in `raiseHeld` no notice for input 15 should be left, but
the panel's offer on the freed place appends the RAISE it holds. No press forms such a notice; see
`inputEvent_withdraws_apart` for the panels that presses make. -/
theorem not_inputEventCoalesces : ¬ Obligations.InputEventCoalesces := by
  intro h
  obtain ⟨-, -, -, -, -, -, -, hfull, -⟩ := h raiseHeld 15 rfl rfl (by decide) rfl
  obtain ⟨t, hexec, hleft, -⟩ := hfull [] clearOf15 0 usedInput.attrs rfl rfl rfl rfl (.inl ⟨rfl, rfl⟩) (by decide)
  have hrun : inputEvent 15 raiseHeld = runOffers 399 (freeSpaceOffers (withoutClear 15 raiseHeld)).2
      { withoutClear 15 raiseHeld with choices := 1 } :=
    inputEvent_withdraws_full (q := []) (c := clearOf15) rfl rfl (by decide) rfl rfl rfl rfl (by decide)
  have htasks : (freeSpaceOffers (withoutClear 15 raiseHeld)).2 = scannerSweep ++ [.heldAck]
      ∨ (freeSpaceOffers (withoutClear 15 raiseHeld)).2 = .heldAck :: scannerSweep := by
    show (permute (Config.freeOrder 0) [scannerSweep, [.heldAck]]).flatten = _
      ∨ (permute (Config.freeOrder 0) [scannerSweep, [.heldAck]]).flatten = _
    rcases permute_two (Config.freeOrder 0) scannerSweep [OfferTask.heldAck] with e | e <;> rw [e]
    · exact .inl rfl
    · exact .inr rfl
  rw [exec_inputEvent, whenUp_of_up _ rfl, hrun] at hexec
  obtain rfl := Host.Outcome.next.inj hexec
  rw [raiseHeld_offers htasks] at hleft
  exact absurd hleft (List.cons_ne_nil _ _)

end Sys2Proof.Machine
end

section
/-! The Input Scanner's filters (R139, R140): the table of one sample, and one INPUT_SAMPLE over all sixteen inputs. -/

namespace Sys2Proof.Machine

open Sys2Proof

/-! ### One sample of one input (R140) -/

/-- The polarity of an input turns the contact around or leaves it (R139). -/
theorem sampledCondition_eq (closed : Bool) (cfg : InputConfig) :
    sampledCondition closed cfg = if cfg.activeOpen then !closed else closed := by
  unfold sampledCondition
  split <;> simp [*]

section
variable {debounce : Nat} {sample : Bool} {i : InputState}

/-- An UNSETTLED input whose sample starts or continues a run of equal ones. -/
theorem sampleFilter_unsettled_continues (hf : i.filtered = .unsettled) (h : i.count = 0 ∨ sample = i.candidate) :
    sampleFilter debounce sample i =
      if i.count + 1 < debounce + 1 then { i with candidate := sample, count := i.count + 1 }
      else { i with filtered := settled sample, candidate := sample, count := 0 } := by
  simp only [sampleFilter, hf, if_pos h, ← Nat.not_lt, ite_not]

/-- An UNSETTLED input whose sample breaks a run of equal ones: the run begins anew with it. -/
theorem sampleFilter_unsettled_breaks (hf : i.filtered = .unsettled) (hc : i.count ≠ 0) (h : sample ≠ i.candidate) :
    sampleFilter debounce sample i =
      if debounce = 0 then { i with filtered := settled sample, candidate := sample, count := 0 }
      else { i with candidate := sample, count := 1 } := by
  have hbreak : ¬ (i.count = 0 ∨ sample = i.candidate) := not_or.mpr ⟨hc, h⟩
  have hdue : debounce + 1 ≤ 1 ↔ debounce = 0 := by omega
  simp only [sampleFilter, hf, if_neg hbreak, hdue]

variable {now : Bool}

theorem sampleFilter_settled_equal (hf : i.filtered = settled now) (h : sample = now) :
    sampleFilter debounce sample i = { i with count := 0 } := by
  subst h
  cases sample <;> simp [sampleFilter, hf, settled]

theorem sampleFilter_settled_differs (hf : i.filtered = settled now) (h : sample ≠ now) :
    sampleFilter debounce sample i =
      if i.count + 1 < debounce + 1 then { i with count := i.count + 1 }
      else { i with filtered := settled sample, count := 0 } := by
  obtain rfl : now = !sample := Bool.eq_not.mpr h.symm
  rw [← ite_not]
  cases sample <;> simp [sampleFilter, hf, settled]

end

theorem filteredActive_unsettled {s : State} {p : Nat} (h : (s.input p).filtered = .unsettled) :
    s.filteredActive p = false := by
  simp [State.filteredActive, h]

/-- The Scanner after a start (R140). -/
theorem startValues_input (l : History) (s : State) (p : Nat) : (startValues l s).input p = .reset :=
  tableGet_replicate 16 _ _

/-! ### One INPUT_SAMPLE (R139) -/

/-- What one sample makes of input p: a step of its filter when it is used. -/
def State.sampledInput (s : State) (closed : BitVec 16) (p : Nat) : InputState :=
  if (s.inputConfig p).used then
    sampleFilter (s.inputConfig p).debounce (sampledCondition (closed.getLsbD p) (s.inputConfig p)) (s.input p)
  else s.input p

section
variable (closed : BitVec 16) (s : State)

theorem sampleInput_frame (p : Nat) : sampleInput closed s p = { s with scanner := (sampleInput closed s p).scanner } := by
  simp only [sampleInput]
  split <;> rfl

theorem input_sampleInput_same {p : Nat} (hp : p < 16) : (sampleInput closed s p).input p = s.sampledInput closed p := by
  simp only [sampleInput, State.sampledInput]
  split
  · exact tableGet_tableSet_same _ _ _ _ hp
  · rfl

theorem input_sampleInput_other {p q : Nat} (h : p ≠ q) : (sampleInput closed s p).input q = s.input q := by
  simp only [sampleInput]
  split
  · exact tableGet_tableSet_other _ _ _ _ _ h
  · rfl

/-- The state after the first n inputs have been sampled. -/
def State.sampledUpTo (s : State) (closed : BitVec 16) (n : Nat) : State := (List.range n).foldl (sampleInput closed) s

theorem sampledUpTo_succ (n : Nat) :
    s.sampledUpTo closed (n + 1) = sampleInput closed (s.sampledUpTo closed n) n := by
  simp only [State.sampledUpTo, List.range_succ, List.foldl_append, List.foldl_cons, List.foldl_nil]

theorem sampledUpTo_frame (n : Nat) :
    s.sampledUpTo closed n = { s with scanner := (s.sampledUpTo closed n).scanner } := by
  induction n with
  | zero => rfl
  | succ n ih =>
    rw [sampledUpTo_succ, sampleInput_frame, ih]

/-- The first n inputs have taken their sample, each from what it held before; the others wait for theirs. -/
theorem input_sampledUpTo {n : Nat} (hn : n ≤ 16) (p : Nat) :
    (s.sampledUpTo closed n).input p = if p < n then s.sampledInput closed p else s.input p := by
  induction n with
  | zero => rfl
  | succ n ih =>
    specialize ih (by omega)
    rw [sampledUpTo_succ]
    by_cases hp : n = p
    · subst hp
      have hconfig : (s.sampledUpTo closed n).inputConfig n = s.inputConfig n := by rw [sampledUpTo_frame]; rfl
      have hbefore : (s.sampledUpTo closed n).input n = s.input n := by rw [ih, if_neg (Nat.lt_irrefl n)]
      rw [input_sampleInput_same _ _ (by omega), if_pos (Nat.lt_succ_self n)]
      simp only [State.sampledInput, hconfig, hbefore]
    · have hlt : p < n + 1 ↔ p < n := by omega
      rw [input_sampleInput_other _ _ hp, ih]
      simp only [hlt]

theorem sampleInputs_configured (h : s.configured = true) : sampleInputs closed s = s.sampledUpTo closed 16 := if_pos h

theorem sampleInputs_unconfigured (h : s.configured = false) : sampleInputs closed s = s :=
  if_neg (Bool.eq_false_iff.mp h)

theorem exec_inputSample : exec (.inputSample closed) s = whenUp s (sampleInputs closed) := rfl

end

/-- Settles O7: INPUT_SAMPLE by the walk over the inputs, the table of R140 row by row, then the start values. -/
theorem inputSampleFilters : Obligations.InputSampleFilters := by
  refine ⟨fun s closed hup => ?_, fun _ _ _ hf => ⟨sampleFilter_unsettled_continues hf, sampleFilter_unsettled_breaks hf⟩,
    fun _ _ _ _ hf => ⟨sampleFilter_settled_equal hf, sampleFilter_settled_differs hf⟩,
    fun _ _ _ => filteredActive_unsettled, fun l s p _ => ?_⟩
  · rw [exec_inputSample, whenUp_of_up _ hup]
    refine ⟨fun hno => ?_, fun hyes => ⟨s.sampledUpTo closed 16, ?_, sampledUpTo_frame closed s 16, fun p hp => ?_⟩⟩
    · rw [sampleInputs_unconfigured closed s hno]
    · rw [sampleInputs_configured closed s hyes]
    · rw [input_sampledUpTo closed s (Nat.le_refl 16), if_pos hp, ← sampledCondition_eq]
      rfl
  · rw [startValues_input]
    exact ⟨rfl, rfl⟩

end Sys2Proof.Machine
end

section
/-! The operator panel's filters and clocks: the buttons (R150), the flash clock and its patterns (R145), and the LAMP TEST
of the TEST button (R152, R179). -/

namespace Sys2Proof.Machine

open Sys2Proof

/-! ### Buttons (R150) -/

section
variable {closed : Bool} {b : ButtonState}

theorem sampleButton_equal (h : closed = b.pressed) : sampleButton closed b = { b with count := 0 } := if_pos h

theorem sampleButton_differs (h : closed ≠ b.pressed) (hc : b.count < 19) :
    sampleButton closed b = { b with count := b.count + 1 } := by
  have hmore : b.count + 1 < Config.buttonSamples := Nat.succ_lt_succ hc
  rw [sampleButton, if_neg h, if_pos hmore]

/-- The twentieth differing sample in a row is recognised. -/
theorem sampleButton_twentieth (h : closed ≠ b.pressed) (hc : b.count = 19) :
    sampleButton closed b = { pressed := closed, count := 0 } := by
  have hlast : ¬ b.count + 1 < Config.buttonSamples := by simp [hc, Config.buttonSamples]
  rw [sampleButton, if_neg h, if_neg hlast]

end

theorem exec_buttonSample (ack silence reset test : Bool) (s : State) :
    exec (.buttonSample ack silence reset test) s = whenUp s (sampleButtons ack silence reset test) := rfl

/-- The Panel Unit after a start: buttons RELEASED with count 0, the flash clock at 0 (R145, R150). -/
theorem startValues_panel (l : History) (s : State) : (startValues l s).panel = .reset := rfl

/-! ### The flash clock (R145) -/

theorem exec_flashClockTick (s : State) : exec .flashClockTick s = whenUp s tickFlash := rfl

theorem nextFlash_eq {n : Nat} (h : n ≤ 999) : (n + 1) % 1000 = if n = 999 then 0 else n + 1 := by
  split <;> omega

theorem tickFlash_eq {s : State} (h : s.panel.flash ≤ 999) :
    tickFlash s = { s with panel := { s.panel with flash := if s.panel.flash = 999 then 0 else s.panel.flash + 1 } } := by
  rw [← nextFlash_eq h]
  rfl

theorem fast_on_iff {n : Nat} (h : n ≤ 999) : Pattern.fast.on n = true ↔
    n ≤ 124 ∨ (250 ≤ n ∧ n ≤ 374) ∨ (500 ≤ n ∧ n ≤ 624) ∨ (750 ≤ n ∧ n ≤ 874) := by
  simp only [Pattern.on, decide_eq_true_eq]
  omega

theorem slow_on_iff {n : Nat} : Pattern.slow.on n = true ↔ n ≤ 499 := by
  simp only [Pattern.on, decide_eq_true_eq]
  omega

theorem double_on_iff {n : Nat} : Pattern.double.on n = true ↔ n ≤ 99 ∨ (200 ≤ n ∧ n ≤ 299) := by
  simp only [Pattern.on, Bool.or_eq_true, Bool.and_eq_true, decide_eq_true_eq]
  omega

theorem lampOutput_of_up {s : State} (p : Pattern) (hup : s.up = true) : lampOutput s p = p.on s.panel.flash := by
  simp only [lampOutput, hup, Bool.true_and]

/-- The pulsed horn keeps the SLOW pattern (R147). -/
theorem hornOutput_pulsed_slow {s : State} (hup : s.up = true) (h : hornSound s = .pulsed) :
    hornOutput s = Pattern.slow.on s.panel.flash :=
  Bool.eq_iff_iff.mpr ((hornOutput_pulsed hup h).trans slow_on_iff.symm)

/-- Settles O9: the button filter by the three lengths of a run of differing samples, the flash clock and the patterns by
the ranges of R145. -/
theorem buttonFiltersAndFlashClock : Obligations.ButtonFiltersAndFlashClock := by
  refine ⟨⟨fun s _ _ _ _ hup => ?_, fun _ _ => ⟨sampleButton_equal, sampleButton_differs, sampleButton_twentieth⟩,
      fun l s => ?_⟩, fun s hup hflash => ?_, fun l s => ?_, fun _ => lampOutput_of_up, fun _ => hornOutput_pulsed_slow,
    fun _ hn => ⟨rfl, rfl, fast_on_iff hn, slow_on_iff, double_on_iff⟩⟩
  · rw [exec_buttonSample, whenUp_of_up _ hup]
    rfl
  · rw [startValues_panel]
    exact ⟨rfl, rfl, rfl, rfl⟩
  · rw [exec_flashClockTick, whenUp_of_up _ hup, tickFlash_eq hflash]
  · rw [startValues_panel]
    rfl

/-! ### LAMP TEST from the panel (R152, R179) -/

theorem exec_testPress (s : State) : exec .testPress s = whenUp s (startLampTest none) := rfl

theorem exec_testRelease (s : State) : exec .testRelease s = whenUp s endLampTest := rfl

theorem exec_lampTestExpiry (s : State) : exec .lampTestExpiry s = whenUp s expireLampTest := rfl

/-- The state with the modal state replaced. -/
def State.withModal (s : State) (m : Modal) : State := { s with port := { s.port with modal := m } }

/-- A rejoin request is taken in ISOLATED only (R119). -/
theorem rejoin_elsewhere {s : State} (h : s.link.state ≠ .isolated) : rejoin s = s := if_neg h

theorem startLampTest_elsewhere {s : State} (seconds : Option Nat) (h : s.link.state ≠ .isolated) :
    startLampTest seconds s = s.withModal (.lampTest seconds) := by
  rw [startLampTest, rejoin_elsewhere h]
  rfl

theorem endLampTest_ends {s : State} {seconds : Option Nat} (h : s.port.modal = .lampTest seconds) :
    endLampTest s = s.withModal .none := by
  simp only [endLampTest, h]
  rfl

theorem endLampTest_elsewhere {s : State} (h : ∀ seconds, s.port.modal ≠ .lampTest seconds) : endLampTest s = s := by
  unfold endLampTest
  split
  · exact absurd ‹_› (h _)
  · rfl
  · rfl

theorem expireLampTest_timed {s : State} {n : Nat} (h : s.port.modal = .lampTest (some n)) :
    expireLampTest s = s.withModal .none := by
  simp only [expireLampTest, h]
  rfl

/-- Settles O12: outside ISOLATED no rejoin comes before the LAMP TEST, and its ends change the modal state only. -/
theorem lampTestStartsAndEnds : Obligations.LampTestStartsAndEnds := by
  intro s hup
  rw [exec_testPress, exec_testRelease, exec_lampTestExpiry, whenUp_of_up _ hup, whenUp_of_up _ hup, whenUp_of_up _ hup]
  refine ⟨fun hs => ?_, fun seconds hm => ?_, fun hm => ?_, fun n hm => ?_⟩
  · rw [startLampTest_elsewhere _ hs]
    rfl
  · rw [endLampTest_ends hm]
    rfl
  · rw [endLampTest_elsewhere hm]
  · rw [expireLampTest_timed hm]
    rfl

end Sys2Proof.Machine
end

section
/-! Every step keeps `State.Bounded` (R37, R56, R71, R140, R145, R150, R154, R160, R172, R182): the few meanings that
Laws/Bounds does not speak of, then `exec` command by command. -/

namespace Sys2Proof.Machine

open Sys2Proof

variable {s : State}

/-! ### What an outcome keeps -/

/-- What holds of the next state of a meaning's outcome, where there is one. -/
def Keeps (P : State → Prop) (o : Host.Outcome State Fault Refusal) : Prop := ∀ t, o = .next t → P t

theorem keeps_next {P : State → Prop} (h : P s) : Keeps P (.next s) := by
  rintro t ⟨⟩
  exact h

/-- A row that a part without supply or under hold ignores keeps what its operation keeps. -/
theorem keeps_whenUp {P : State → Prop} {f : State → State} (hf : P (f s)) (h : P s) : Keeps P (whenUp s f) := by
  cases hup : s.up with
  | true => exact whenUp_of_up f hup ▸ keeps_next hf
  | false => exact whenUp_of_held f hup ▸ keeps_next h

/-! ### Meanings made of operations that keep the ranges -/

theorem bounded_inputEvent (p : Nat) (h : s.Bounded) : State.Bounded (inputEvent p s) := by
  unfold inputEvent
  split
  · exact bounded_runOffers _ _ h
  · exact h

theorem bounded_ackAction (h : s.Bounded) : State.Bounded (ackAction s) := by
  unfold ackAction
  split
  · exact bounded_pressAck h
  · exact h

theorem bounded_resetAction (h : s.Bounded) : State.Bounded (resetAction s) := by
  unfold resetAction
  split
  · exact bounded_pressReset (bounded_localReset h)
  · exact bounded_localReset h

/-- The flash clock wraps from 999 to 0 (R145). -/
theorem bounded_tickFlash (h : s.Bounded) : State.Bounded (tickFlash s) :=
  bounded_mapPanel _ (fun _ p => ⟨Nat.le_of_lt_succ (Nat.mod_lt _ (by decide)), p.ack, p.silence, p.reset, p.test⟩) h

theorem bounded_execResetnLow (selected : Bool) (h : s.Bounded) :
    State.Bounded (if s.supply then heldStart selected { s with resetnLow := true } else { s with resetnLow := true }) := by
  split
  · exact bounded_heldStart _ _
  · exact { h with }

/-- The end of a transaction, in which "WARM" may have asked for a warm restart (R163, R164). -/
theorem bounded_ssnRises (h : s.Bounded) :
    State.Bounded (if s.up then endTransaction s else setTransaction .idle s) := by
  split
  · exact bounded_endTransaction h
  · exact bounded_setTransaction _ h

/-! ### The step -/

/-- A row of the mailbox keeps the ranges. -/
theorem keepsRanges_writeCmdRow (word : Word32) (h : s.Bounded) : Keeps State.Bounded (writeCmdRow word s) :=
  keeps_next (bounded_serve _ _ (bounded_writeCmd word) h)

/-- A row of the registers keeps the ranges when the write it makes does. -/
theorem keepsRanges_whenServed (after : Transaction) {f : State → State}
    (hf : ∀ {s : State}, s.Bounded → (f s).Bounded) (h : s.Bounded) : Keeps State.Bounded (whenServed after s f) :=
  keeps_next (bounded_serve after f hf h)

/-- Every command keeps the ranges, whatever its operands. -/
theorem keepsRanges_exec (i : Instr) (h : s.Bounded) : Keeps State.Bounded (exec i s) := by
  cases i with
  -- starts, pins and supply
  | powerOn selected => exact keeps_next (bounded_heldStart _ _)
  | resetnLow selected => exact keeps_next (bounded_execResetnLow selected h)
  | warmRestart => exact keeps_whenUp (bounded_restartIfRequested h) h
  | resetnHigh => exact keeps_next { h with }
  | powerOnHoldEnd => exact keeps_next { h with }
  | lossOfSupply => exact keeps_next { h with }
  | ssnRising => exact keeps_next (bounded_ssnRises h)
  -- the Configuration Loader
  | configWaitExpiry => exact keeps_whenUp (bounded_configWaitEnds h) h
  | failedAttempt cause => exact keeps_whenUp (bounded_attemptFails h) h
  | retryWaitExpiry => exact keeps_whenUp (bounded_retryWaitEnds h) h
  | configReadComplete bytes => exact keeps_whenUp (bounded_readCompletes bytes h) h
  -- inputs and panel
  | inputSample closed => exact keeps_whenUp (bounded_sampleInputs closed h) h
  | inputEvent point => exact keeps_whenUp (bounded_inputEvent point h) h
  | buttonSample ack silence reset test => exact keeps_whenUp (bounded_sampleButtons ack silence reset test h) h
  | ackPress => exact keeps_whenUp (bounded_ackAction h) h
  | resetPress => exact keeps_whenUp (bounded_resetAction h) h
  | silencePress => exact keeps_whenUp (bounded_silenceAction h) h
  | testPress => exact keeps_whenUp (bounded_startLampTest none h) h
  | testRelease => exact keeps_whenUp (bounded_endLampTest h) h
  | flashClockTick => exact keeps_whenUp (bounded_tickFlash h) h
  | lampTestExpiry => exact keeps_whenUp (bounded_expireLampTest h) h
  | rejoinDelayExpiry => exact keeps_whenUp (bounded_expireRejoinDelay h) h
  -- frames received
  | frameStart => exact keeps_whenUp (bounded_frameStarts h) h
  | collision => exact keeps_whenUp (bounded_collide h) h
  | frameEndByGap => exact keeps_whenUp (bounded_frameEndsByGap h) h
  | invalidFrame => exact keeps_whenUp (bounded_invalidFrameEnds h) h
  | markReceived bytes => exact keeps_whenUp (bounded_markEnds bytes h) h
  | slotFrameReceived bytes inside =>
    exact keeps_whenUp (bounded_receiveBytes (bounded_fallInside inside) bytes h) h
  | ownedListReceived bytes inside =>
    exact keeps_whenUp (bounded_receiveBytes (bounded_fallInside inside) bytes h) h
  -- frames sent
  | slotFrameSend => exact keeps_whenUp (bounded_sendSlotFrame h) h
  | ownSlotFrameSent inside removedFirst =>
    exact keeps_whenUp (bounded_slotFrameSent (bounded_fallInside inside) removedFirst h) h
  | ownedListSend => exact keeps_whenUp (bounded_sendOwnedList h) h
  | ownedListSent => exact keeps_whenUp (bounded_ownedListSent h) h
  | markTimerExpiry => exact keeps_whenUp (bounded_expireMarkTimer h) h
  -- time on the link
  | listenWindowExpiry => exact keeps_whenUp (bounded_listenWindowEnds h) h
  | founding => exact keeps_whenUp (bounded_found h) h
  | joinQuietTimeout => exact keeps_whenUp (bounded_joinQuietEnds h) h
  | silentSlot => exact keeps_whenUp (bounded_silentSlotEnds h) h
  | slotEnd => exact keeps_whenUp (bounded_occupiedSlotEnds h) h
  | slotLengthLimit => exact keeps_whenUp (bounded_slotLimitEnds h) h
  -- the mailbox
  | acka => exact keepsRanges_writeCmdRow _ h
  | ackp => exact keepsRanges_writeCmdRow _ h
  | rsta => exact keepsRanges_writeCmdRow _ h
  | shlv => exact keepsRanges_writeCmdRow _ h
  | unsh => exact keepsRanges_writeCmdRow _ h
  | siln => exact keepsRanges_writeCmdRow _ h
  | test => exact keepsRanges_writeCmdRow _ h
  | clrh => exact keepsRanges_writeCmdRow _ h
  | isol => exact keepsRanges_writeCmdRow _ h
  | rjon => exact keepsRanges_writeCmdRow _ h
  | lkey => exact keepsRanges_writeCmdRow _ h
  | warm => exact keepsRanges_writeCmdRow _ h
  | abrt => exact keepsRanges_writeCmdRow _ h
  | unknownCommand code => exact keepsRanges_writeCmdRow _ h
  | overrun code => exact keepsRanges_writeCmdRow _ h
  -- the registers
  | eventsWrite offset value => exact keepsRanges_whenServed _ (bounded_writeEvents offset value) h
  | eventmaskWrite offset value => exact keepsRanges_whenServed _ (bounded_writeEventmask offset value) h
  | countersWrite offset value => exact keepsRanges_whenServed _ bounded_zeroCounters h
  | selectWrite object index => exact keepsRanges_whenServed _ (bounded_writeSelect object index) h
  | recordLoad => exact keepsRanges_whenServed _ bounded_loadRecord h
  | registerWrite address value => exact keepsRanges_whenServed _ (bounded_writeByte _ value) h

theorem bounded_pending (rest : List Instr) (h : s.Bounded) : State.Bounded { s with pending := rest } := { h with }

/-- Settles O59: a step idles, or executes its front command on a state that differs in the waiting commands only. -/
theorem stepKeepsTheRanges : Obligations.StepKeepsTheRanges := by
  intro s t h hstep
  unfold step at hstep
  split at hstep
  · exact keeps_next h t hstep
  · exact keepsRanges_exec _ (bounded_pending _ h) t hstep

end Sys2Proof.Machine
end

section
/-! The History Log (R154, R160): what an append makes of a log with room and of a full one, and what the window shows of
it. -/

namespace Sys2Proof.Machine

open Sys2Proof

/-! ### Appending (R160) -/

theorem History.append_room {l : History} (e : HistoryEntry) (h : l.entries.length < 48) :
    l.append e = { l with entries := l.entries ++ [e] } := if_pos h

/-- A full log drops the entry at index 16, the first after its earliest part, and counts the drop. -/
theorem History.append_full {l : History} (e : HistoryEntry) (h : l.entries.length = 48) :
    l.append e = { entries := l.entries.take 16 ++ l.entries.drop 17 ++ [e]
                   overflow := if l.overflow < 65535 then l.overflow + 1 else l.overflow } := by
  have hfull : ¬ l.entries.length < Config.logPlaces := by rw [h]; decide
  simp only [History.append, if_neg hfull, Config.earliestPart, List.eraseIdx_eq_take_drop_succ, saturate]

theorem recordHistory_room {s : State} (e : HistoryEntry) (h : s.history.entries.length < 48) :
    recordHistory e s = { s with history := { s.history with entries := s.history.entries ++ [e] } } := by
  rw [recordHistory_eq, if_pos h, History.append_room e h]

theorem recordHistory_full {s : State} (e : HistoryEntry) (h : s.history.entries.length = 48) :
    recordHistory e s = { s with
      history := { entries := s.history.entries.take 16 ++ s.history.entries.drop 17 ++ [e]
                   overflow := if s.history.overflow < 65535 then s.history.overflow + 1 else s.history.overflow }
      port := s.port.flagged .histovf } := by
  rw [recordHistory_eq, if_neg (by omega), History.append_full e h]
  rfl

/-! ### What the window shows of the log (R165, R170) -/

/-- A two-byte field of the window reads back its number, most significant byte first (R1). -/
theorem fieldByte_two_toNat {n : Nat} (h : n ≤ 65535) :
    (fieldByte 2 n 0).toNat * 256 + (fieldByte 2 n 1).toNat = n := by
  have high : (fieldByte 2 n 0).toNat = n / 256 % 256 := rfl
  have low : (fieldByte 2 n 1).toNat = n / 1 % 256 := rfl
  omega

/-- HISTLEN (R165). -/
theorem windowByte_histlen (s : State) : windowByte s 0x16 = BitVec.ofNat 8 s.history.entries.length := rfl

/-- The two bytes of HISTCNT (R165). -/
theorem windowByte_histcnt (s : State) :
    windowByte s 0x17 = fieldByte 2 s.history.overflow 0 ∧ windowByte s 0x18 = fieldByte 2 s.history.overflow 1 :=
  ⟨rfl, rfl⟩

theorem recordAt_history {s : State} {i : Nat} {e : HistoryEntry} (h : s.history.entries[i]? = some e) :
    recordAt s .history i = historyRecord e := by simp only [recordAt, h]

theorem recordAt_history_beyond {s : State} {i : Nat} (h : s.history.entries.length ≤ i) :
    recordAt s .history i = [] := by simp only [recordAt, List.getElem?_eq_none h]

/-! ### Clearing a flag (R167) -/

theorem exec_eventsWrite (offset : Nat) (v : Byte) (s : State) :
    exec (.eventsWrite offset v) s = .next (writeEventsAt offset v s) := rfl

/-- A write of EVENTS, served or not, leaves the log and its count. -/
theorem writeEventsAt_history (offset : Nat) (v : Byte) (s : State) : (writeEventsAt offset v s).history = s.history := by
  unfold writeEventsAt
  cases h : s.serves with
  | true => rw [serve_serves _ _ h]; rfl
  | false => rw [serve_ignored _ _ h]

/-- Settles O53: a log with room takes the entry at its end, a full one drops the entry after the earliest sixteen; the
window shows length, count and entries, and a write of EVENTS reaches the port only. -/
theorem historyKeepsTheEarliestPart : Obligations.HistoryKeepsTheEarliestPart := by
  intro s e
  refine ⟨fun h => recordHistory_room e (Nat.lt_succ_of_le h), recordHistory_full e, fun h => ?_, fun h => ?_,
    fun _ _ => recordAt_history, fun _ => recordAt_history_beyond, fun offset v => ?_⟩
  · rw [windowByte_histlen, BitVec.toNat_ofNat]
    omega
  · obtain ⟨high, low⟩ := windowByte_histcnt s
    rw [high, low, fieldByte_two_toNat h]
  · exact ⟨_, exec_eventsWrite offset v s, writeEventsAt_history offset v s⟩

end Sys2Proof.Machine
end

section
/-! The starts, and the part while a start holds it or without supply (ch. 11). -/

namespace Sys2Proof.Machine

open Sys2Proof

/-! ### Starts (R186) -/

/-- A power-on holds the part and restores its supply; RESETN is as it was. -/
theorem exec_powerOn (selected : Bool) (s : State) : exec (.powerOn selected) s = .next
    { State.reset with
        pending := s.pending, choices := s.choices, powerHold := true, resetnLow := s.resetnLow
        port := { Port.reset with transaction := s.port.transaction.cut selected } } := rfl

/-- A low RESETN under supply holds the part; the power-on hold is as it was. -/
theorem exec_resetnLow_supplied {s : State} (selected : Bool) (h : s.supply = true) :
    exec (.resetnLow selected) s = .next
      { State.reset with
          pending := s.pending, choices := s.choices, powerHold := s.powerHold, resetnLow := true
          port := { Port.reset with transaction := s.port.transaction.cut selected } } := by
  have hstart : exec (.resetnLow selected) s = .next (heldStart selected { s with resetnLow := true }) :=
    congrArg Host.Outcome.next (if_pos h)
  rw [hstart]
  simp only [heldStart, startValues, h]
  rfl

theorem exec_resetnLow_unsupplied {s : State} (selected : Bool) (h : s.supply = false) :
    exec (.resetnLow selected) s = .next { s with resetnLow := true } :=
  congrArg Host.Outcome.next (if_neg (Bool.eq_false_iff.mp h))

/-- A start with SSN low abandons every transaction. -/
theorem cut_selected (t : Transaction) : t.cut true = .abandoned := by cases t <;> rfl

/-- A start abandons a transaction of which some byte has been acted on, whether SSN is low or not. -/
theorem cut_of_ne_idle {t : Transaction} (selected : Bool) (h : t ≠ .idle) : t.cut selected = .abandoned := by
  cases t with
  | idle => exact absurd rfl h
  | writing | reading | abandoned => rfl

/-- Settles O2: each start by its equation, the pins by the arm of `exec`, the transaction by its cases. -/
theorem startsGiveTheStartValues : Obligations.StartsGiveTheStartValues :=
  ⟨fun s selected => exec_powerOn selected s, fun _ selected => exec_resetnLow_supplied selected,
    fun _ selected => exec_resetnLow_unsupplied selected, fun _ => rfl, fun _ => rfl, fun _ => rfl,
    fun t => ⟨cut_selected t, cut_of_ne_idle false, rfl⟩⟩

/-- Settles O58: the reset state is the start values that a start gives itself, which are in range and agree. -/
theorem resetIsBoundedAndConsistent : Obligations.ResetIsBoundedAndConsistent :=
  ⟨bounded_reset, consistent_startValues emptyLog State.reset⟩

/-! ### The part while it is held (R186, log entry 23) -/

section
variable {s : State}

theorem serves_of_held (h : s.up = false) : s.serves = false := by
  rw [State.serves, h, Bool.false_and]

theorem configBusReleased_of_held (h : s.up = false) : configBusReleased s = true := by
  rw [configBusReleased, h, Bool.false_and, Bool.not_false]

theorem lkde_of_held (h : s.up = false) : lkde s = false := by
  rw [lkde, h, Bool.false_and]

/-- A row whose bytes the port shifts in, at a held part. -/
theorem next_serve_of_held (after : Transaction) (f : State → State) (h : s.up = false) :
    (.next (serve after f s) : Host.Outcome State Fault Refusal) = .next s :=
  congrArg _ (serve_ignored after f (serves_of_held h))

/-- A held part ignores every command but those of supply, hold and RESETN and the rise of SSN. -/
theorem exec_of_held (h : s.up = false) (c : Instr)
    (hstart : ∀ selected, c ≠ .powerOn selected ∧ c ≠ .resetnLow selected)
    (hpin : c ∉ [Instr.resetnHigh, .powerOnHoldEnd, .lossOfSupply, .ssnRising]) : exec c s = .next s := by
  cases c with
  -- the five commands of supply, hold and RESETN, and the rise of SSN
  | powerOn selected => exact absurd rfl (hstart selected).1
  | resetnLow selected => exact absurd rfl (hstart selected).2
  | resetnHigh | powerOnHoldEnd | lossOfSupply | ssnRising => exact absurd (by decide) hpin
  -- bytes that SCK shifts into the port
  | acka | ackp | rsta | shlv | unsh | siln | test | clrh | isol | rjon | lkey | warm | abrt | unknownCommand | overrun
  | eventsWrite | eventmaskWrite | countersWrite | selectWrite | recordLoad | registerWrite =>
    exact next_serve_of_held _ _ h
  -- what happens to a part that is up
  | warmRestart | configWaitExpiry | failedAttempt | retryWaitExpiry | configReadComplete | inputSample | inputEvent
  | buttonSample | ackPress | resetPress | silencePress | testPress | testRelease | flashClockTick | lampTestExpiry
  | rejoinDelayExpiry | frameStart | collision | frameEndByGap | invalidFrame | markReceived | slotFrameReceived
  | ownedListReceived | slotFrameSend | ownSlotFrameSent | ownedListSend | ownedListSent | markTimerExpiry
  | listenWindowExpiry | founding | joinQuietTimeout | silentSlot | slotEnd | slotLengthLimit =>
    exact whenUp_of_held _ h

theorem exec_ssnRising_of_held (h : s.up = false) :
    exec .ssnRising s = .next { s with port := { s.port with transaction := .idle } } :=
  congrArg Host.Outcome.next (if_neg (Bool.eq_false_iff.mp h))

/-- LKTX is high while LKDE is inactive (R77). -/
theorem lktx_of_held (h : s.up = false) (n : Nat) : lktx s n = true :=
  if_neg (Bool.eq_false_iff.mp (lkde_of_held h))

theorem misoReleased_of_held (h : s.up = false) (ssnLow : Bool) : misoReleased ssnLow s = true := by
  rw [misoReleased, serves_of_held h, Bool.and_false, Bool.not_false]

end

/-- Settles O4: the commands one kind at a time, then each output, which asks that the part is up. -/
theorem heldPartIsInactive : Obligations.HeldPartIsInactive := by
  intro s h
  have inactive (b : Bool) : (s.up && b) = false := by rw [h, Bool.false_and]
  exact ⟨exec_of_held h, exec_ssnRising_of_held h, inactive _, inactive _, lkde_of_held h, inactive _,
    fun _ => inactive _, lktx_of_held h, misoReleased_of_held h, configBusReleased_of_held h⟩

end Sys2Proof.Machine
end

section
/-! Which buffers are valid images: the reading of the layout of R195 part by part, then the conditions of R183. -/

namespace Sys2Proof.Machine

open Sys2Proof

/-! ### Reading a list of bytes -/

theorem byteAt_drop (bs : List Byte) (offset i : Nat) : byteAt (bs.drop offset) i = byteAt bs (offset + i) := by
  simp only [byteAt, List.getD_eq_getElem?_getD, List.getElem?_drop]

theorem byteAt_take (bs : List Byte) {i n : Nat} (h : i < n) : byteAt (bs.take n) i = byteAt bs i := by
  simp only [byteAt, List.getD_eq_getElem?_getD, List.getElem?_take_of_lt h]

/-- A list that holds a byte at an offset goes on there with that byte. -/
theorem drop_eq_byteAt_cons {bs : List Byte} {offset : Nat} (h : offset < bs.length) :
    bs.drop offset = byteAt bs offset :: bs.drop (offset + 1) := by
  rw [List.drop_eq_getElem_cons h, byteAt, List.getD_eq_getElem?_getD, List.getElem?_eq_getElem h, Option.getD_some]

/-- A two-byte field, most significant byte first (R1). -/
theorem fieldAt_two {bs : List Byte} {offset : Nat} (h : offset + 1 < bs.length) :
    fieldAt bs offset 2 = (byteAt bs offset).toNat * 256 + (byteAt bs (offset + 1)).toNat := by
  rw [fieldAt, drop_eq_byteAt_cons (by omega), drop_eq_byteAt_cons h]
  simp [beNat]

/-- The pieces of a list are the runs of their width, one after the other. -/
theorem pieces_eq_map_range (width n : Nat) (bs : List Byte) :
    pieces width n bs = (List.range n).map (fun i => (bs.drop (width * i)).take width) := by
  induction n generalizing bs with
  | zero => rfl
  | succ n ih =>
    simp only [pieces, ih, List.range_succ_eq_map, List.map_cons, List.map_map, List.drop_drop]
    simp [Function.comp_def, Nat.mul_succ, Nat.add_comm]

/-- Every value of a list is present exactly when the list of them is. -/
theorem allSome_isSome_iff {α : Type} (xs : List (Option α)) :
    (allSome xs).isSome = true ↔ ∀ x ∈ xs, x.isSome = true := by
  induction xs with
  | nil => simp [allSome]
  | cons x xs ih => cases x <;> simp [allSome, ih]

/-- The entries of a table in the image are all valid when each one is, read at its own place. -/
theorem table_isSome_iff {α : Type} (entry : List Byte → Option α) (width n offset : Nat) (bs : List Byte) :
    (allSome ((pieces width n (bs.drop offset)).map entry)).isSome = true ↔
      ∀ i, i < n → (entry ((bs.drop (offset + width * i)).take width)).isSome = true := by
  simp [allSome_isSome_iff, pieces_eq_map_range, List.drop_drop]

/-- A byte of one entry of a table, as a byte of the image. -/
theorem byteAt_entry (bs : List Byte) (offset : Nat) {width i : Nat} (h : i < width) :
    byteAt ((bs.drop offset).take width) i = byteAt bs (offset + i) := by
  rw [byteAt_take _ h, byteAt_drop]

/-! ### The codes of an image (R190, R195) -/

/-- Of the four codes that two bits hold, 0 is no class (R190). -/
theorem classOfCode_isSome_iff {n : Nat} (h : n < 4) : (classOfCode n).isSome = true ↔ n ≠ 0 := by
  decide +revert

theorem attributesOf_isSome_iff (b : Byte) :
    (attributesOf b).isSome = true ↔ b.toNat % 4 ≠ 0 ∧ b.toNat / 16 ≤ 8 := by
  rw [← classOfCode_isSome_iff (Nat.mod_lt _ (by decide)), attributesOf]
  cases classOfCode (b.toNat % 4) with
  | none => simp
  | some c => by_cases hg : b.toNat / 16 ≤ 8 <;> simp [hg]

/-- One input entry: its use, its class and its first-out group (R183). -/
theorem inputConfigOf_isSome_iff (bs : List Byte) :
    (inputConfigOf bs).isSome = true ↔
      (byteAt bs 0).toNat ≤ 1 ∧ (byteAt bs 2).toNat % 4 ≠ 0 ∧ (byteAt bs 2).toNat / 16 ≤ 8 := by
  rw [← attributesOf_isSome_iff, inputConfigOf]
  cases attributesOf (byteAt bs 2) with
  | none => simp
  | some a => by_cases hu : (byteAt bs 0).toNat ≤ 1 <;> simp [hu]

/-- One window entry: unmapped, or a point of some owner (R183). -/
theorem windowOf_isSome_iff (bs : List Byte) :
    (windowOf bs).isSome = true ↔
      (byteAt bs 0).toNat = 0 ∨ ((byteAt bs 0).toNat ≤ 24 ∧ (byteAt bs 1).toNat ≤ 16) := by
  simp only [windowOf]
  by_cases hzero : (byteAt bs 0).toNat = 0
  · simp [hzero]
  · have hrange : pointInRange (byteAt bs 0).toNat (byteAt bs 1).toNat = true ↔
        (byteAt bs 0).toNat ≤ 24 ∧ (byteAt bs 1).toNat ≤ 16 := by
      simp only [pointInRange, Bool.and_eq_true, decide_eq_true_eq]
      omega
    rw [if_neg hzero, ← hrange]
    cases pointInRange (byteAt bs 0).toNat (byteAt bs 1).toNat <;> simp [hzero]

theorem bitRateOf_isSome_iff (n : Nat) : (bitRateOf n).isSome = true ↔ 1 ≤ n ∧ n ≤ 3 := by
  match n with
  | 0 | 1 | 2 | 3 => decide
  | n + 4 => exact iff_of_false nofun (by omega)

/-! ### The image (R183) -/

/-- The scalar conditions of R183, byte by byte: the marks of the layout, the check, and the ranges of the station's own
values. -/
theorem imageHeaderValid_iff {bs : List Byte} (h : bs.length = 256) :
    imageHeaderValid bs = true ↔
      let b (i : Nat) : Nat := (byteAt bs i).toNat
      b 0 = 0x50 ∧ b 1 = 0x24 ∧ (b 2 = 1 ∧ b 3 = 0) ∧ b 0xFE * 256 + b 0xFF = (frameCheck (bs.take 0xFE)).toNat
        ∧ (1 ≤ b 4 ∧ b 4 ≤ 24) ∧ (2 ≤ b 5 ∧ b 5 ≤ 24) ∧ b 4 ≤ b 5 ∧ (1 ≤ b 7 ∧ b 7 ≤ 8) ∧ b 0x0A ≤ 1 := by
  have hversion : fieldAt bs 2 2 = 256 ↔ (byteAt bs 2).toNat = 1 ∧ (byteAt bs 3).toNat = 0 := by
    rw [fieldAt_two (by omega)]
    change (byteAt bs 2).toNat * 256 + (byteAt bs 3).toNat = 256 ↔ _
    omega
  have hbyte (i : Nat) (v : Byte) : byteAt bs i = v ↔ (byteAt bs i).toNat = v.toNat := BitVec.toNat_inj.symm
  simp only [imageHeaderValid, Bool.and_eq_true, beq_iff_eq, decide_eq_true_eq, hversion, hbyte,
    fieldAt_two (bs := bs) (offset := 0xFE) (by omega), and_assoc]
  rfl

/-- An image is read exactly when its scalar conditions hold and its bit rate, its inputs and its windows are read. -/
theorem imageOf_isSome_iff (bs : List Byte) :
    (imageOf bs).isSome = true ↔ imageHeaderValid bs = true ∧ (bitRateOf (byteAt bs 6).toNat).isSome = true
      ∧ (allSome ((pieces 3 16 (bs.drop 0x0B)).map inputConfigOf)).isSome = true
      ∧ (allSome ((pieces 2 24 (bs.drop 0x3B)).map windowOf)).isSome = true := by
  unfold imageOf
  cases imageHeaderValid bs with
  | false => simp
  | true =>
    cases bitRateOf (byteAt bs 6).toNat with
    | none => simp
    | some rate =>
      cases allSome ((pieces 3 16 (bs.drop 0x0B)).map inputConfigOf) with
      | none => simp
      | some inputs => cases allSome ((pieces 2 24 (bs.drop 0x3B)).map windowOf) <;> simp

/-- Settles O6: the four parts of the reading, each by its own conditions at its place in the layout. -/
theorem imageValidity : Obligations.ImageValidity := by
  intro bytes
  rw [imageOf_isSome_iff, imageHeaderValid_iff bytes.length_toList, bitRateOf_isSome_iff, table_isSome_iff,
    table_isSome_iff]
  simp only [inputConfigOf_isSome_iff, windowOf_isSome_iff]
  simp only [byteAt_entry _ _ (show 0 < 3 by decide), byteAt_entry _ _ (show 2 < 3 by decide),
    byteAt_entry _ _ (show 0 < 2 by decide), byteAt_entry _ _ (show 1 < 2 by decide), Nat.add_zero]
  -- the same conditions on both sides; the bit rate stands between the others in R183
  grind

end Sys2Proof.Machine
end

section
/-! The Configuration Loader: its waits, the attempts and their failures, and the delivery of a valid image (R182, R184,
R185). -/

namespace Sys2Proof.Machine

open Sys2Proof

/-! ### The rows of the loader -/

theorem exec_configWaitExpiry (s : State) : exec .configWaitExpiry s = whenUp s configWaitEnds := rfl

theorem exec_retryWaitExpiry (s : State) : exec .retryWaitExpiry s = whenUp s retryWaitEnds := rfl

theorem exec_failedAttempt (cause : AttemptFailure) (s : State) :
    exec (.failedAttempt cause) s = whenUp s attemptFails := rfl

theorem exec_configReadComplete (bytes : Vector Byte 256) (s : State) :
    exec (.configReadComplete bytes) s = whenUp s (readCompletes bytes) := rfl

/-! ### Attempts (R182) -/

section
variable {s : State}

theorem reading_of (hs : s.loader.state = .reading) (hw : s.loader.retryWait = false) : s.reading = true := by
  simp [State.reading, hs, hw]

theorem configWaitEnds_waiting (h : s.loader.state = .waiting) : configWaitEnds s = beginAttempt s := if_pos h

theorem retryWaitEnds_waits (hs : s.loader.state = .reading) (hw : s.loader.retryWait = true) :
    retryWaitEnds s = beginAttempt s := if_pos ⟨hs, hw⟩

/-- A failure that leaves another attempt: its wait begins. -/
theorem attemptFails_again (hr : s.reading = true) (ha : s.loader.attempts < 3) :
    attemptFails s = s.mapLoader (fun l => { l with retryWait := true }) := by
  rw [attemptFails, if_pos hr, if_pos ha]

theorem attemptFails_last (hr : s.reading = true) (ha : s.loader.attempts = 3) : attemptFails s = loadFault s := by
  rw [attemptFails, if_pos hr, if_neg (by rw [ha]; decide)]

theorem readCompletes_invalid {bytes : Vector Byte 256} (hr : s.reading = true) (hb : imageOf bytes.toList = none) :
    readCompletes bytes s = loadFault (s.mapLoader (fun l => { l with buffer := bytes, state := .checking })) := by
  rw [readCompletes, if_pos hr, hb]

theorem readCompletes_valid {bytes : Vector Byte 256} {image : Image} (hr : s.reading = true)
    (hb : imageOf bytes.toList = some image) :
    readCompletes bytes s =
      deliverImage image (s.mapLoader (fun l => { l with buffer := bytes, state := .checking })) := by
  rw [readCompletes, if_pos hr, hb]

/-! ### FAULT (R185) -/

/-- A passage from a state other than RUNNING changes the link state and sets LINKCHG; nothing else. -/
theorem setLinkState_eq {new : LinkState} (hn : s.link.state ≠ new) (hr : s.link.state ≠ .running) :
    setLinkState new s = { s with link := { s.link with state := new }, port := s.port.flagged .linkchg } := by
  rw [setLinkState, if_neg hn]
  exact if_neg hr

/-- FAULT changes the loader and the link state, and sets LINKCHG and CFGFLT; nothing else. -/
theorem loadFault_eq (h : s.link.state = .configuring) :
    loadFault s = { s with
      loader := { s.loader with state := .fault, retryWait := false }
      link := { s.link with state := .configFault }
      port := (s.port.flagged .linkchg).flagged .cfgflt } := by
  have hlink : (s.mapLoader (fun l => { l with state := .fault, retryWait := false })).link.state = .configuring := h
  rw [loadFault, setLinkState_eq (by rw [hlink]; decide) (by rw [hlink]; decide)]
  rfl

/-! ### The inputs at the delivery of an image (R139) -/

/-- What the delivery of an image makes of an input with this configuration: an unused one is filtered inactive. -/
def InputConfig.rested (c : InputConfig) (i : InputState) : InputState :=
  if c.used then i else { i with filtered := .inactive, candidate := false, count := 0 }

theorem InputConfig.rested_rested (c : InputConfig) (i : InputState) : c.rested (c.rested i) = c.rested i := by
  unfold InputConfig.rested
  split <;> rfl

theorem restUnused_frame (s : State) (p : Nat) : restUnused s p = { s with scanner := (restUnused s p).scanner } := by
  unfold restUnused
  split <;> rfl

theorem input_restUnused {p : Nat} (hp : p < 16) (q : Nat) :
    (restUnused s p).input q = if p = q then (s.inputConfig q).rested (s.input q) else s.input q := by
  unfold restUnused InputConfig.rested
  by_cases hpq : p = q
  · subst hpq
    rw [if_pos rfl]
    split
    · rfl
    · exact tableGet_tableSet_same _ _ _ _ hp
  · rw [if_neg hpq]
    split
    · rfl
    · exact tableGet_tableSet_other _ _ _ _ _ hpq

theorem foldl_restUnused_frame (ps : List Nat) (s : State) :
    ps.foldl restUnused s = { s with scanner := (ps.foldl restUnused s).scanner } :=
  foldl_keeps (P := fun t => t = { s with scanner := t.scanner }) restUnused
    (fun t p ht => (restUnused_frame t p).trans
      (congrArg (fun u : State => { u with scanner := (restUnused t p).scanner }) ht)) ps s rfl

/-- The inputs that a walk comes to are rested, once or more; the others are as they were. -/
theorem input_foldl_restUnused {ps : List Nat} (hps : ∀ p ∈ ps, p < 16) (s : State) (q : Nat) :
    (ps.foldl restUnused s).input q = if q ∈ ps then (s.inputConfig q).rested (s.input q) else s.input q := by
  induction ps generalizing s with
  | nil => rfl
  | cons p ps ih =>
    have hconfig : (restUnused s p).inputConfig q = s.inputConfig q := by rw [restUnused_frame]; rfl
    rw [List.foldl_cons, ih (fun p hp => hps p (List.mem_cons_of_mem _ hp)), hconfig,
      input_restUnused (hps p List.mem_cons_self)]
    by_cases hpq : p = q
    · simp [hpq, InputConfig.rested_rested]
    · simp [hpq, Ne.symm hpq]

/-! ### Entry to LISTENING with nothing queued (R95, R107) -/

/-- The wait set is part of the directory. -/
theorem emptyWaitSet_frame (s : State) : emptyWaitSet s = { s with directory := (emptyWaitSet s).directory } :=
  foldl_keeps (P := fun t => t = { s with directory := t.directory }) _
    (fun t k ht => congrArg
      (fun u : State => { u with directory := (t.modifyEntry k (fun e => { e with joinWait := none })).directory }) ht)
    addresses s rfl

theorem dropDuties_frame (s : State) :
    dropDuties s = { s with link := (endOwnSlot s).link, directory := (dropDuties s).directory } := by
  have hwait := emptyWaitSet_frame (endOwnSlot s)
  exact congrArg (fun u : State => { u with directory := (dropDuties s).directory }) hwait

/-- A flush of an empty queue discards the held panel notices and makes no history entry (R76). -/
theorem flushNow_empty (h : s.notices = []) :
    flushNow s = s.mapPanel (fun p => { p with heldAck := none, heldReset := none }) := by
  rw [flushNow, flush, if_pos h, ← h]

/-- The Link Controller in LISTENING, with what the passage leaves of it. -/
def Link.listening (l : Link) : Link :=
  { l with
      state := .listening, position := .unsynchronised, confirmed := false, quiet := 0, markTimer := .stopped
      silenceTimer := .stopped, lengthTimer := .stopped, slotEndTimer := .stopped, markCollisions := 0
      ownCollisions := 0, markSeen := false, joinSent := none, sendDue := false, listDue := false }

/-- LISTENING entered from a state other than RUNNING, nothing queued: the link, the directory, the deferred comparison
and the held panel notices take their values, LINKCHG is set, and everything else is as it was. -/
theorem enterListening_eq (hq : s.notices = []) (hl : s.link.state ≠ .listening) (hr : s.link.state ≠ .running) :
    ∃ directory, enterListening s = { s with
      link := s.link.listening
      directory := directory
      agreement := { s.agreement with deferred := none }
      panel := { s.panel with heldAck := none, heldReset := none }
      port := s.port.flagged .linkchg } := by
  have hduties := dropDuties_frame (setLinkState .listening s)
  generalize (dropDuties (setLinkState .listening s)).directory = directory at hduties
  have hempty : (unfollow (dropDuties (setLinkState .listening s))).notices = [] := by
    rw [hduties, setLinkState_eq hl hr]
    exact hq
  refine ⟨directory, ?_⟩
  rw [enterListening, flushNow_empty hempty, hduties, setLinkState_eq hl hr]
  rfl

/-! ### Delivery (R184) -/

/-- The state with an image in the loader, delivered. -/
def State.withImage (image : Image) (s : State) : State :=
  s.mapLoader (fun l => { l with state := .delivered, image := some image })

/-- A valid image delivered in CONFIGURING, nothing queued: LISTENING with the image in the loader, the inputs that it
leaves unused rested, and the tables and the log as they were. -/
theorem deliverImage_eq (image : Image) (hs : s.link.state = .configuring) (hq : s.notices = []) :
    ∃ directory, deliverImage image s = { s with
      loader := { s.loader with state := .delivered, image := some image }
      scanner := ((List.range 16).foldl restUnused (s.withImage image)).scanner
      link := s.link.listening
      directory := directory
      agreement := { s.agreement with deferred := none }
      panel := { s.panel with heldAck := none, heldReset := none }
      port := s.port.flagged .linkchg } := by
  have hwalk := foldl_restUnused_frame (List.range 16) (s.withImage image)
  generalize hd : (List.range 16).foldl restUnused (s.withImage image) = d at hwalk
  have hlink : d.link = s.link := by rw [hwalk]; rfl
  have hnotices : d.notices = [] := by rw [hwalk]; exact hq
  obtain ⟨directory, hlisten⟩ := enterListening_eq hnotices (by rw [hlink, hs]; decide) (by rw [hlink, hs]; decide)
  have hdeliver : deliverImage image s = enterListening d := congrArg enterListening hd
  refine ⟨directory, hdeliver.trans (hlisten.trans ?_)⟩
  rw [hwalk]
  rfl

theorem hasEvent_flagged (e : Event) (s : State) : ({ s with port := s.port.flagged e } : State).hasEvent e = true :=
  hasEvent_setEvent_same e s

/-- Once a valid image is delivered, an input that it uses is as it was, and one that it leaves unused is at rest. -/
theorem input_deliverImage (image : Image) (hs : s.link.state = .configuring) (hq : s.notices = []) {p : Nat}
    (hp : p < 16) :
    (deliverImage image s).input p = ((deliverImage image s).inputConfig p).rested (s.input p) := by
  obtain ⟨directory, h⟩ := deliverImage_eq image hs hq
  have hconfig : (deliverImage image s).inputConfig p = (s.withImage image).inputConfig p := by rw [h]; rfl
  have hinput : (deliverImage image s).input p = ((List.range 16).foldl restUnused (s.withImage image)).input p := by
    rw [h]; rfl
  rw [hconfig, hinput, input_foldl_restUnused (fun _ => List.mem_range.mp), if_pos (List.mem_range.mpr hp)]
  rfl

end

end Sys2Proof.Machine
end

section
/-! A read attempt on the configuration bus (R182): what its readings make of it, and the levels of its steps. -/

namespace Sys2Proof.Machine

open Sys2Proof

/-! ### The rows that an attempt ends with -/

theorem getElem_bit (b : Bool) (position : Nat) {i : Nat} (h : i < 8) :
    (bit b position)[i] = (b && decide (i = position)) := by
  cases b with
  | false => simp [bit]
  | true => exact (BitVec.getElem_twoPow h).trans (by simp)

/-- Eight bits are the byte whose bits they are, most significant first (R164, R182). -/
theorem wholeBytes_msbFirst (b : Byte) (rest : List Bool) : wholeBytes (msbFirst b ++ rest) = b :: wholeBytes rest := by
  refine congrArg (· :: wholeBytes rest) ?_
  ext i hi
  simp only [BitVec.getElem_or, getElem_bit _ _ hi]
  match i, hi with
  | 0, _ | 1, _ | 2, _ | 3, _ | 4, _ | 5, _ | 6, _ | 7, _ => simp [BitVec.getLsbD_eq_getElem]

theorem wholeBytes_flatMap_msbFirst (bs : List Byte) : wholeBytes (bs.flatMap msbFirst) = bs := by
  induction bs with
  | nil => rfl
  | cons b bs ih => rw [List.flatMap_cons, wholeBytes_msbFirst, ih]

/-- A buffer is the table of its bytes. -/
theorem ofFn_byteAt {n : Nat} (bytes : Vector Byte n) : Vector.ofFn (fun i => byteAt bytes.toList i.val) = bytes := by
  ext1 i hi
  simp [byteAt]

section
variable {r : BusReadings}

/-! ### Freeing the bus -/

/-- The pulses are as many as the readings before CFGDA reads high, at most nine. -/
theorem pulses_eq {n : Nat} (hn : n ≤ 9) (hlow : ∀ i, i < n → r.recovery.toList[i]? = some false)
    (hhigh : n < 9 → r.recovery.toList[n]? = some true) : r.pulses = n := by
  have hlen : (r.recovery.toList.take 9).length = 9 := by simp
  have low {i : Nat} (hi : i < n) (h : i < (r.recovery.toList.take 9).length) :
      id (r.recovery.toList.take 9)[i] = false := by
    obtain ⟨_, hread⟩ := List.getElem?_eq_some_iff.mp (hlow i hi)
    rw [List.getElem_take]
    exact hread
  rcases Nat.lt_or_eq_of_le hn with h | rfl
  · obtain ⟨_, hread⟩ := List.getElem?_eq_some_iff.mp (hhigh h)
    refine (List.findIdx_eq (by omega)).mpr ⟨?_, fun j hj => low hj _⟩
    rw [List.getElem_take]
    exact hread
  · refine (List.findIdx_eq_length.mpr fun x hx => ?_).trans hlen
    obtain ⟨i, hi, rfl⟩ := List.mem_iff_getElem.mp hx
    exact low (hlen ▸ hi) hi

theorem pulses_le (r : BusReadings) : r.pulses ≤ 9 :=
  Nat.le_trans List.findIdx_le_length (List.length_take_le 9 _)

/-- The line is held where it reads low after the last pulse. -/
theorem held_iff : r.held = true ↔ r.recovery.toList[r.pulses]? = some false := by
  have hplace : r.pulses < 10 := Nat.lt_succ_of_le (pulses_le r)
  simp [BusReadings.held, tableGet, hplace]

/-- A bus that reads high at once needs no freeing. -/
theorem freeing_free (h : r.recovery.toList[0]? = some true) : r.freeing = [] ∧ r.held = false := by
  have hpulses : r.pulses = 0 := pulses_eq (Nat.zero_le 9) nofun (fun _ => h)
  refine ⟨if_pos hpulses, Bool.eq_false_iff.mpr fun hheld => ?_⟩
  rw [held_iff, hpulses, h] at hheld
  exact nomatch hheld

theorem freeing_pulses {n : Nat} (h1 : 1 ≤ n) (h9 : n ≤ 9) (hlow : ∀ i, i < n → r.recovery.toList[i]? = some false)
    (hhigh : n < 9 → r.recovery.toList[n]? = some true) :
    r.freeing = List.replicate n BusStep.recoveryPulse ++ [BusStep.stop]
      ∧ (r.held = true ↔ r.recovery.toList[n]? = some false) := by
  have hpulses : r.pulses = n := pulses_eq h9 hlow hhigh
  rw [held_iff, BusReadings.freeing, hpulses, if_neg (by omega)]
  exact ⟨rfl, Iff.rfl⟩

/-! ### The steps of an attempt -/

theorem attempt_held (h : r.held = true) :
    attemptSteps r = r.freeing ∧ attemptRow r = .failedAttempt .dataLineHeld := by
  rw [attemptSteps, attemptRow, if_pos h, if_pos h, List.append_nil]
  exact ⟨rfl, rfl⟩

theorem attemptSteps_free (h : r.held = false) : attemptSteps r = r.freeing ++ r.reading := by
  simp [attemptSteps, h]

theorem attemptRow_unacknowledged (h : r.held = false) (ha : r.deviceWrite ∨ r.wordAddress ∨ r.deviceRead) :
    attemptRow r = .failedAttempt .noAcknowledge := by
  rw [attemptRow, if_neg (by simp [h]), if_pos ha]

theorem attempt_noDeviceWrite (h : r.held = false) (hw : r.deviceWrite = true) :
    attemptSteps r = r.freeing ++ [BusStep.start, .send 0xA0, .stop]
      ∧ attemptRow r = .failedAttempt .noAcknowledge := by
  refine ⟨?_, attemptRow_unacknowledged h (.inl hw)⟩
  rw [attemptSteps_free h]
  simp [BusReadings.reading, hw]

theorem attempt_noWordAddress (h : r.held = false) (hw : r.deviceWrite = false) (ha : r.wordAddress = true) :
    attemptSteps r = r.freeing ++ [BusStep.start, .send 0xA0, .send 0x00, .stop]
      ∧ attemptRow r = .failedAttempt .noAcknowledge := by
  refine ⟨?_, attemptRow_unacknowledged h (.inr (.inl ha))⟩
  rw [attemptSteps_free h]
  simp [BusReadings.reading, hw, ha]

theorem attempt_noDeviceRead (h : r.held = false) (hw : r.deviceWrite = false) (ha : r.wordAddress = false)
    (hr : r.deviceRead = true) :
    attemptSteps r = r.freeing ++ [BusStep.start, .send 0xA0, .send 0x00, .start, .send 0xA1, .stop]
      ∧ attemptRow r = .failedAttempt .noAcknowledge := by
  refine ⟨?_, attemptRow_unacknowledged h (.inr (.inr hr))⟩
  rw [attemptSteps_free h]
  simp [BusReadings.reading, hw, ha, hr]

theorem attemptSteps_complete (h : r.held = false) (hw : r.deviceWrite = false) (ha : r.wordAddress = false)
    (hr : r.deviceRead = false) :
    attemptSteps r = r.freeing ++ [BusStep.start, .send 0xA0, .send 0x00, .start, .send 0xA1]
      ++ List.replicate 255 (BusStep.read true) ++ [BusStep.read false, .stop] := by
  rw [attemptSteps_free h]
  simp only [BusReadings.reading, hw, ha, hr, Bool.false_eq_true, if_false, List.append_assoc]
  rfl

theorem attemptRow_complete (h : r.held = false) (hw : r.deviceWrite = false) (ha : r.wordAddress = false)
    (hr : r.deviceRead = false) {bytes : Vector Byte 256} (hd : r.data = bytes.toList.flatMap msbFirst) :
    attemptRow r = .configReadComplete bytes := by
  rw [attemptRow, if_neg (by simp [h]), if_neg (by simp [hw, ha, hr]), hd, wholeBytes_flatMap_msbFirst, ofFn_byteAt]

end

/-! ### The levels of the lines -/

/-- The second level of each pulse has CFGCK released and CFGDA as the pulse sets it. -/
theorem flatMap_busPulse_high (ds : List Bool) (i : Nat) :
    (ds.flatMap busPulse)[3 * i + 1]? = ds[i]?.map (fun d => ⟨true, d⟩) := by
  induction ds generalizing i with
  | nil => rfl
  | cons d ds ih =>
    cases i with
    | zero => rfl
    | succ i => exact ih i

theorem msbFirst_getElem? (b : Byte) {i : Nat} (h : i < 8) : (msbFirst b)[i]? = some (b.getLsbD (7 - i)) := by
  simp [msbFirst, h]

theorem send_levels (b : Byte) {i : Nat} (h : i < 8) :
    (BusStep.send b).levels[3 * i + 1]? = some ⟨true, b.getLsbD (7 - i)⟩
      ∧ (BusStep.send b).levels[25]? = some ⟨true, true⟩ := by
  have hlen : (msbFirst b).length = 8 := rfl
  refine ⟨?_, flatMap_busPulse_high _ 8⟩
  rw [BusStep.levels, flatMap_busPulse_high, List.getElem?_append_left (hlen ▸ h), msbFirst_getElem? b h]
  rfl

theorem read_levels (acknowledge : Bool) {i : Nat} (h : i < 8) :
    (BusStep.read acknowledge).levels[3 * i + 1]? = some ⟨true, true⟩
      ∧ (BusStep.read acknowledge).levels[25]? = some ⟨true, !acknowledge⟩ := by
  refine ⟨?_, flatMap_busPulse_high _ 8⟩
  rw [BusStep.levels, flatMap_busPulse_high, List.getElem?_append_left (by simpa using h), List.getElem?_replicate,
    if_pos h]
  rfl

/-- CFGDA is the same from one level to the next, or CFGCK is low in both. -/
def BusLevels.Steady (x y : BusLevels) : Prop := x.da ≠ y.da → x.ck = false ∧ y.ck = false

/-- Every two levels that follow one another on the lines are steady. -/
def SteadyLevels (levels : List BusLevels) : Prop :=
  ∀ (i : Nat) (x y : BusLevels), levels[i]? = some x → levels[i + 1]? = some y → x.Steady y

theorem steadyLevels_nil : SteadyLevels [] := fun _ _ _ hx _ => nomatch hx

theorem steadyLevels_singleton (x : BusLevels) : SteadyLevels [x] := fun _ _ _ _ hy => nomatch hy

theorem steadyLevels_cons {x y : BusLevels} {levels : List BusLevels} (hxy : x.Steady y)
    (h : SteadyLevels (y :: levels)) : SteadyLevels (x :: y :: levels) := by
  intro i x' y' hx hy
  cases i with
  | zero =>
    cases hx
    cases hy
    exact hxy
  | succ i => exact h i x' y' hx hy

/-- Pulses change CFGDA between one another, where CFGCK is low. -/
theorem steadyLevels_pulses (ds : List Bool) : SteadyLevels (ds.flatMap busPulse) := by
  induction ds with
  | nil => exact steadyLevels_nil
  | cons d ds ih =>
    have hpulse {ck ck' : Bool} : BusLevels.Steady ⟨ck, d⟩ ⟨ck', d⟩ := fun h => absurd rfl h
    refine steadyLevels_cons hpulse (steadyLevels_cons hpulse ?_)
    cases ds with
    | nil => exact steadyLevels_singleton _
    | cons d' ds => exact steadyLevels_cons (fun _ => ⟨rfl, rfl⟩) ih

/-- But for the two conditions, every step changes CFGDA only while CFGCK is low. -/
theorem steadyLevels_step {step : BusStep} (hstart : step ≠ .start) (hstop : step ≠ .stop) :
    SteadyLevels step.levels := by
  cases step with
  | start => exact absurd rfl hstart
  | stop => exact absurd rfl hstop
  | recoveryPulse => exact steadyLevels_cons (fun h => absurd rfl h) (steadyLevels_singleton _)
  | send b => exact steadyLevels_pulses _
  | read acknowledge => exact steadyLevels_pulses _

/-- Both lines are released at a held part, and where no attempt runs. -/
theorem configBusReleased_of_idle {s : State}
    (h : s.up = false ∨ s.loader.state ≠ .reading ∨ s.loader.retryWait = true) : configBusReleased s = true := by
  rcases h with h | h | h
  · exact configBusReleased_of_held h
  · simp [configBusReleased, State.reading, h]
  · simp [configBusReleased, State.reading, h]

/-! ### The whole load -/

/-- A valid buffer read in CONFIGURING, nothing queued: its image is delivered, tables and log stay (R184). -/
theorem exec_configReadComplete_valid {s : State} {bytes : Vector Byte 256} {image : Image} (hup : s.up = true)
    (hr : s.reading = true) (hs : s.link.state = .configuring) (hb : imageOf bytes.toList = some image)
    (hq : s.notices = []) :
    ∃ t, exec (.configReadComplete bytes) s = .next t
      ∧ t.loader = { s.loader with state := .delivered, image := some image, buffer := bytes }
      ∧ t.link = s.link.listening ∧ t.hasEvent .linkchg = true
      ∧ t.points = s.points ∧ t.list = s.list ∧ t.groups = s.groups ∧ t.history = s.history
      ∧ ∀ p, p < 16 → t.input p = (t.inputConfig p).rested (s.input p) := by
  let checking : State := s.mapLoader (fun l => { l with buffer := bytes, state := .checking })
  obtain ⟨directory, hdeliver⟩ := deliverImage_eq (s := checking) image hs hq
  have hexec : exec (.configReadComplete bytes) s = .next (deliverImage image checking) := by
    rw [exec_configReadComplete, whenUp_of_up _ hup, readCompletes_valid hr hb]
  have hinput (p : Nat) (hp : p < 16) : (deliverImage image checking).input p
      = ((deliverImage image checking).inputConfig p).rested (s.input p) :=
    input_deliverImage (s := checking) image hs hq hp
  rw [hdeliver] at hexec hinput
  exact ⟨_, hexec, rfl, rfl, hasEvent_flagged .linkchg s, rfl, rfl, rfl, rfl, hinput⟩

/-- Settles O5: the rows of the loader, the readings of an attempt, and the levels of its steps. -/
theorem loaderReadsAndDelivers : Obligations.LoaderReadsAndDelivers := by
  refine ⟨fun s hup => ?_, fun r => ⟨freeing_free, fun n => freeing_pulses, attempt_held, fun hfree =>
      ⟨attempt_noDeviceWrite hfree, attempt_noWordAddress hfree, attempt_noDeviceRead hfree,
        fun hw ha hr => ⟨attemptSteps_complete hfree hw ha hr, fun _ => attemptRow_complete hfree hw ha hr⟩⟩⟩,
    ⟨rfl, rfl, rfl⟩, fun b _ => send_levels b, fun acknowledge _ => read_levels acknowledge,
    fun _ i x y hstart hstop => steadyLevels_step hstart hstop i x y,
    fun s r n hidle => if_pos (configBusReleased_of_idle hidle)⟩
  refine ⟨fun hs => ?_, fun hs hw => ?_, fun hs hw cause => ⟨fun ha => ?_, fun ha hl => ?_⟩,
    fun hs hw hl bytes => ⟨fun hb => ?_, fun image hb hq => ?_⟩⟩
  · rw [exec_configWaitExpiry, whenUp_of_up _ hup, configWaitEnds_waiting hs]
    rfl
  · rw [exec_retryWaitExpiry, whenUp_of_up _ hup, retryWaitEnds_waits hs hw]
    rfl
  · rw [exec_failedAttempt, whenUp_of_up _ hup, attemptFails_again (reading_of hs hw) ha]
    rfl
  · rw [exec_failedAttempt, whenUp_of_up _ hup, attemptFails_last (reading_of hs hw) ha, loadFault_eq hl]
  · rw [exec_configReadComplete, whenUp_of_up _ hup, readCompletes_invalid (reading_of hs hw) hb]
    exact congrArg Host.Outcome.next (loadFault_eq (s := s.mapLoader _) hl)
  · obtain ⟨t, hexec, hloader, hlink, hevent, hpoints, hlist, hgroups, hhistory, hinput⟩ :=
      exec_configReadComplete_valid hup (reading_of hs hw) hl hb hq
    refine ⟨t, hexec, hloader, ?_, ?_, ?_, ?_, ?_, hevent, hpoints, hlist, hgroups, hhistory, hinput⟩
    all_goals rw [hlink]; rfl

end Sys2Proof.Machine
end

section
/-! One step of the block: it executes the command at the front of the queue (log entry 2). -/

namespace Sys2Proof.Machine

open Sys2Proof

theorem step_of_pending_cons {s : State} {c : Instr} {rest : List Instr} (h : s.pending = c :: rest) :
    step s = exec c { s with pending := rest } := by
  rw [step, h]

theorem step_of_pending_nil {s : State} (h : s.pending = []) : step s = .next s := by
  rw [step, h]

/-- Settles O1: the front command is taken off the queue that it was put on. -/
theorem stepExecutesTheFrontCommand : Obligations.StepExecutesTheFrontCommand :=
  ⟨fun _ _ => step_of_pending_cons rfl, fun _ => step_of_pending_nil⟩

end Sys2Proof.Machine
end

section
/-! The frames of the link (R80, R188 to R192): every field, entry and notice is read back from the bytes that carry it. -/

namespace Sys2Proof.Machine

open Sys2Proof

/-! ### Numbers as bytes (R1) -/

theorem byte_toNat {n : Nat} (h : n < 256) : (BitVec.ofNat 8 n).toNat = n := by
  rw [BitVec.toNat_ofNat, Nat.mod_eq_of_lt h]

theorem getLsbD_bit (b : Bool) {position : Nat} (h : position < 8) (i : Nat) :
    (bit b position).getLsbD i = (b && decide (i = position)) := by
  by_cases hi : i < 8
  · rw [BitVec.getLsbD_eq_getElem hi, getElem_bit b position hi]
  · rw [BitVec.getLsbD_of_ge _ _ (by omega), decide_eq_false (by omega), Bool.and_false]

theorem length_beBytes (n v : Nat) : (beBytes n v).length = n := by
  induction n with
  | zero => rfl
  | succ n ih => rw [beBytes, List.length_cons, ih]

/-- Reading `n` bytes on top of what was read before moves that up by `n` places. -/
theorem foldl_beBytes (n v read : Nat) :
    (beBytes n v).foldl (fun acc b => acc * 256 + b.toNat) read = read * 256 ^ n + v % 256 ^ n := by
  induction n generalizing read with
  | zero => simp [beBytes, Nat.mod_one]
  | succ n ih =>
    have hpow : 256 ^ (n + 1) = 256 ^ n * 256 := by rw [Nat.pow_succ]
    rw [beBytes, List.foldl_cons, ih, BitVec.toNat_ofNat, hpow, Nat.mod_mul (x := v), Nat.add_mul, Nat.mul_assoc,
      Nat.mul_comm 256, Nat.mul_comm (v / 256 ^ n % _), Nat.add_assoc, Nat.add_comm (v % 256 ^ n)]

theorem beNat_beBytes {n v : Nat} (h : v < 256 ^ n) : beNat (beBytes n v) = v := by
  rw [beNat, foldl_beBytes, Nat.zero_mul, Nat.zero_add, Nat.mod_eq_of_lt h]

/-- A stamp is read back wherever its seven bytes stand (R188). -/
theorem stampAt_of_drop {bs rest : List Byte} {offset : Nat} {t : Stamp} (ht : stampFits t = true)
    (h : bs.drop offset = stampBytes t ++ rest) : stampAt bs offset = t := by
  obtain ⟨⟨hcycle, hslot⟩, hposition⟩ : (t.cycle < 2 ^ 40 ∧ t.slot < 256) ∧ t.position < 256 := by
    simpa [stampFits] using ht
  have hfield : fieldAt bs offset 5 = beNat (beBytes 5 t.cycle) := by rw [fieldAt, h]; rfl
  have hbyte (i : Nat) : byteAt bs (offset + i) = byteAt (stampBytes t ++ rest) i := by rw [← h, byteAt_drop]
  rw [stampAt, hfield, hbyte, hbyte, beNat_beBytes hcycle]
  exact congr (congrArg (Stamp.mk t.cycle) (byte_toNat hslot)) (byte_toNat hposition)

/-! ### Codes (R190) -/

theorem attributesOf_attributesByte {a : Attributes} (h : attributesFit a = true) :
    attributesOf (attributesByte a) = some a := by
  obtain ⟨cls, seq, group⟩ := a
  have hgroup : group ≤ 8 := of_decide_eq_true h
  cases cls <;> cases seq <;> decide +revert

/-- The state and flags byte holds the state's code in its low three bits and one flag in each of the next three. -/
theorem stateFlagsByte_fields (st : PointState) (active shelved firstOut : Bool) :
    let b := stateFlagsByte st active shelved firstOut
    stateOfCode (b.toNat % 8) = some st ∧ b.getLsbD 3 = active ∧ b.getLsbD 4 = shelved ∧ b.getLsbD 5 = firstOut := by
  cases st <;> decide +revert

/-! ### List entries and notices (R191, R192) -/

theorem entryOf_entryBytes {e : ListEntry} (h : entryFits e = true) : entryOf (entryBytes e) = some e := by
  obtain ⟨⟨⟨hpoint, hoccurrence⟩, hattrs⟩, halert⟩ :
      ((e.point ≤ 15 ∧ e.occurrence ≤ 255) ∧ attributesFit e.attrs = true) ∧ stampFits e.alert = true := by
    simpa [entryFits] using h
  obtain ⟨hstate, hactive, hshelved, hfirstOut⟩ := stateFlagsByte_fields e.state e.active e.shelved e.firstOut
  have hb0 : byteAt (entryBytes e) 0 = BitVec.ofNat 8 e.point := rfl
  have hb1 : byteAt (entryBytes e) 1 = stateFlagsByte e.state e.active e.shelved e.firstOut := rfl
  have hb2 : byteAt (entryBytes e) 2 = BitVec.ofNat 8 e.occurrence := rfl
  have hb3 : byteAt (entryBytes e) 3 = attributesByte e.attrs := rfl
  have hstamp : stampAt (entryBytes e) 4 = e.alert := stampAt_of_drop halert (List.append_nil _).symm
  simp only [entryOf, hb0, hb1, hb2, hb3, hstate, hactive, hshelved, hfirstOut, hstamp,
    attributesOf_attributesByte hattrs, byte_toNat (show e.point < 256 by omega),
    byte_toNat (show e.occurrence < 256 by omega)]

theorem length_entryBytes (e : ListEntry) : (entryBytes e).length = 11 := rfl

/-- The name of a point of the table fits two bytes (R2). -/
theorem bytes_toNat_of_inRange {owner point : Nat} (h : pointInRange owner point = true) :
    (BitVec.ofNat 8 owner).toNat = owner ∧ (BitVec.ofNat 8 point).toNat = point := by
  obtain ⟨-, howner, hpoint⟩ := pointInRange_iff.mp h
  exact ⟨byte_toNat (by omega), byte_toNat (by omega)⟩

/-- RAISE and CLEAR share their layout, and each is read back by its own kind (R192). -/
theorem noticeOf_noticeBytes {n : Notice} (h : noticeFits n = true) : noticeOf (noticeBytes n) = some n := by
  cases n with
  | raise p o a =>
    obtain ⟨⟨hp, ho⟩, ha⟩ : (p ≤ 15 ∧ o ≤ 255) ∧ attributesFit a = true := by simpa [noticeFits] using h
    simp [noticeOf, noticeBytes, byteAt, attributesOf_attributesByte ha, byte_toNat (show p < 256 by omega),
      byte_toNat (show o < 256 by omega), hp]
  | clear p o a =>
    obtain ⟨⟨hp, ho⟩, ha⟩ : (p ≤ 15 ∧ o ≤ 255) ∧ attributesFit a = true := by simpa [noticeFits] using h
    simp [noticeOf, noticeBytes, byteAt, attributesOf_attributesByte ha, byte_toNat (show p < 256 by omega),
      byte_toNat (show o < 256 by omega), hp]
  | ackUpto m l => exact congrArg (fun t => some (Notice.ackUpto m t)) (stampAt_of_drop h rfl)
  | ackPoint w p o =>
    obtain ⟨hwp, ho⟩ : pointInRange w p = true ∧ o ≤ 255 := by simpa [noticeFits] using h
    simp [noticeOf, noticeBytes, byteAt, bytes_toNat_of_inRange hwp, byte_toNat (show o < 256 by omega), hwp]
  | resetUpto m l => exact congrArg (fun t => some (Notice.resetUpto m t)) (stampAt_of_drop h rfl)
  | shelve w p =>
    have hwp : pointInRange w p = true := h
    simp [noticeOf, noticeBytes, byteAt, bytes_toNat_of_inRange hwp, hwp]
  | unshelve w p =>
    have hwp : pointInRange w p = true := h
    simp [noticeOf, noticeBytes, byteAt, bytes_toNat_of_inRange hwp, hwp]
  | join n => cases n <;> rfl
  | resyncRequest t =>
    obtain ⟨hfirst, hlast⟩ : 1 ≤ t ∧ t ≤ 24 := by simpa [noticeFits] using h
    simp [noticeOf, noticeBytes, byteAt, byte_toNat (show t < 256 by omega), hfirst, hlast]

theorem length_noticeBytes (n : Notice) : (noticeBytes n).length = 10 := by cases n <;> rfl

/-! ### Frames (R80 to R82) -/

/-- Pieces of the width that each value is written in are the values one by one. -/
theorem pieces_flatMap {α : Type} {width : Nat} {write : α → List Byte} {xs : List α}
    (h : ∀ x ∈ xs, (write x).length = width) (rest : List Byte) :
    pieces width xs.length (xs.flatMap write ++ rest) = xs.map write := by
  induction xs with
  | nil => rfl
  | cons x xs ih =>
    obtain ⟨hx, hxs⟩ := List.forall_mem_cons.mp h
    rw [List.flatMap_cons, List.append_assoc, List.length_cons, pieces, List.take_left' hx, List.drop_left' hx, ih hxs,
      List.map_cons]

/-- Values that are read back one by one are read back from their pieces. -/
theorem map_pieces_flatMap {α : Type} {width : Nat} {write : α → List Byte} {read : List Byte → α} {xs : List α}
    (h : ∀ x ∈ xs, (write x).length = width ∧ read (write x) = x) (rest : List Byte) :
    (pieces width xs.length (xs.flatMap write ++ rest)).map read = xs := by
  rw [pieces_flatMap (fun x hx => (h x hx).1), List.map_map]
  exact (List.map_congr_left fun x hx => (h x hx).2).trans (List.map_id _)

theorem length_flatMap_of_width {α : Type} {width : Nat} {write : α → List Byte} {xs : List α}
    (h : ∀ x ∈ xs, (write x).length = width) : (xs.flatMap write).length = width * xs.length := by
  rw [List.length_flatMap, List.map_congr_left h, List.map_const', List.sum_replicate_nat, Nat.mul_comm]

/-- The conditions of R82 on the bytes of a frame. -/
structure SoundFrame (slots : Nat) (bs : List Byte) : Prop where
  length : expectedLength bs = some bs.length
  check : beNat (bs.drop (bs.length - 2)) = (frameCheck (bs.take (bs.length - 2))).toNat
  sender : 1 ≤ (byteAt bs 1).toNat ∧ (byteAt bs 1).toNat ≤ slots

section
variable {slots : Nat} {bs body : List Byte}

theorem judge_mark (h : SoundFrame slots bs) (hkind : byteAt bs 0 = 0x51) : judge slots bs = .mark (markOf bs) := by
  rw [judge, if_pos ⟨h.length, h.check, h.sender⟩, hkind]
  rfl

theorem judge_slot (h : SoundFrame slots bs) (hkind : byteAt bs 0 = 0x52) : judge slots bs = .slot (slotOf bs) := by
  rw [judge, if_pos ⟨h.length, h.check, h.sender⟩, hkind]
  rfl

theorem judge_list (h : SoundFrame slots bs) (hkind : byteAt bs 0 = 0x53) : judge slots bs = .list (listOf bs) := by
  rw [judge, if_pos ⟨h.length, h.check, h.sender⟩, hkind]
  rfl

theorem length_withCheck (body : List Byte) : (withCheck body).length = body.length + 2 := by
  rw [withCheck, List.length_append, length_beBytes]

/-- A body closed with its check is sound where its header gives its length and a sender of the link. -/
theorem soundFrame_withCheck (hlength : expectedLength (withCheck body) = some (body.length + 2)) {sender : Nat}
    (hbyte : byteAt (withCheck body) 1 = BitVec.ofNat 8 sender) (hfirst : 1 ≤ sender) (hlast : sender ≤ slots)
    (hslots : slots ≤ 24) : SoundFrame slots (withCheck body) where
  length := by rw [hlength, length_withCheck]
  check := by
    rw [length_withCheck, Nat.add_sub_cancel, withCheck, List.drop_left, List.take_left,
      beNat_beBytes (frameCheck body).isLt]
  sender := by
    rw [hbyte, byte_toNat (by omega)]
    exact ⟨hfirst, hlast⟩

end

/-- A MARK is read back (R191). -/
theorem judge_markFrame {slots : Nat} {f : MarkFrame} (hslots : slots ≤ 24) (h : markFits slots f = true) :
    judge slots (Sending.mark f).bytes = .mark f := by
  obtain ⟨hfirst, hlast, hcount, hcycle⟩ :
      1 ≤ f.sender ∧ f.sender ≤ slots ∧ f.slots < 256 ∧ f.cycle < 2 ^ 40 := by
    simpa [markFits, and_assoc] using h
  refine (judge_mark (soundFrame_withCheck rfl rfl hfirst hlast hslots) rfl).trans (congrArg Judged.mark ?_)
  have hread : markOf (withCheck (markBody f))
      = ⟨(BitVec.ofNat 8 f.sender).toNat, (BitVec.ofNat 8 f.slots).toNat, beNat (beBytes 5 f.cycle)⟩ := rfl
  rw [hread, byte_toNat (by omega), byte_toNat hcount, beNat_beBytes hcycle]

/-- The ranges of a SLOT frame, and its places: each holds a notice, whose ten bytes are read back (R192). -/
theorem slotFits_spec {slots : Nat} {f : SlotFrame} (h : slotFits slots f = true) :
    (1 ≤ f.sender ∧ f.sender ≤ slots) ∧ f.zone < 256 ∧ f.cycle < 2 ^ 40 ∧ f.notices.length ≤ 6
      ∧ ∀ n ∈ f.notices, (placeBytes n).length = 10 ∧ noticeOf (placeBytes n) = n := by
  simp only [slotFits, Bool.and_eq_true, decide_eq_true_eq, and_assoc, List.all_eq_true] at h
  obtain ⟨hfirst, hlast, hzone, hcycle, hcount, hnotices⟩ := h
  refine ⟨⟨hfirst, hlast⟩, hzone, hcycle, hcount, fun n hn => ?_⟩
  cases n with
  | none => exact nomatch hnotices none hn
  | some n => exact ⟨length_noticeBytes n, noticeOf_noticeBytes (hnotices _ hn)⟩

/-- A SLOT frame is read back, with its notices in their places (R191). -/
theorem judge_slotFrame {slots : Nat} {f : SlotFrame} (hslots : slots ≤ 24) (h : slotFits slots f = true) :
    judge slots (Sending.slot f).bytes = .slot f := by
  obtain ⟨⟨hfirst, hlast⟩, hzone, hcycle, hcount, hplaces⟩ := slotFits_spec h
  have hcountByte : (byteAt (withCheck (slotBody f)) 8).toNat = f.notices.length := byte_toNat (by omega)
  have hkind : byteAt (withCheck (slotBody f)) 0 = 0x52 := rfl
  have hlength : expectedLength (withCheck (slotBody f)) = some ((slotBody f).length + 2) := by
    have hbody : (slotBody f).length = 12 + 10 * f.notices.length :=
      (List.length_append ..).trans (congrArg (12 + ·) (length_flatMap_of_width fun n hn => (hplaces n hn).1))
    rw [hbody, expectedLength, hkind]
    change (if (byteAt (withCheck (slotBody f)) 8).toNat ≤ 6 then _ else _) = _
    rw [hcountByte, if_pos hcount]
    exact congrArg some (by omega)
  refine (judge_slot (soundFrame_withCheck hlength rfl hfirst hlast hslots) hkind).trans (congrArg Judged.slot ?_)
  have hread : slotOf (withCheck (slotBody f))
      = ⟨(BitVec.ofNat 8 f.sender).toNat, (BitVec.ofNat 8 f.zone).toNat, beNat (beBytes 5 f.cycle),
        (bit f.listFollows 0).getLsbD 0, BitVec.ofNat 16 (beNat (beBytes 2 f.digest.toNat)),
        (pieces 10 (byteAt (withCheck (slotBody f)) 8).toNat
          (f.notices.flatMap placeBytes ++ beBytes 2 (frameCheck (slotBody f)).toNat)).map noticeOf⟩ := rfl
  rw [hread, hcountByte, map_pieces_flatMap hplaces, byte_toNat (by omega), byte_toNat hzone, beNat_beBytes hcycle,
    beNat_beBytes f.digest.isLt, BitVec.ofNat_toNat, BitVec.setWidth_eq, getLsbD_bit _ (by decide),
    decide_eq_true rfl, Bool.and_true]

/-- The ranges of an OWNED LIST, and its sixteen places: each holds an entry in range. -/
theorem listFits_spec {slots : Nat} {f : ListFrame} (h : listFits slots f = true) :
    (1 ≤ f.sender ∧ f.sender ≤ slots) ∧ f.cycleLow < 65536 ∧ f.entries.length = 16
      ∧ ∀ x ∈ f.entries, ∃ e, x = some e ∧ entryFits e = true := by
  simp only [listFits, Bool.and_eq_true, decide_eq_true_eq, beq_iff_eq, and_assoc, List.all_eq_true] at h
  obtain ⟨hfirst, hlast, hcycle, hcount, hentries⟩ := h
  refine ⟨⟨hfirst, hlast⟩, hcycle, hcount, fun x hx => ?_⟩
  cases x with
  | none => exact nomatch hentries none hx
  | some e => exact ⟨e, rfl, hentries _ hx⟩

/-- An OWNED LIST is read back, with its sixteen entries (R191). -/
theorem judge_listFrame {slots : Nat} {f : ListFrame} (hslots : slots ≤ 24) (h : listFits slots f = true) :
    judge slots (Sending.list f).bytes = .list f := by
  obtain ⟨⟨hfirst, hlast⟩, hcycle, hcount, hentries⟩ := listFits_spec h
  have hbody : (listBody f).length = 4 + 11 * f.entries.length := by
    refine (List.length_append ..).trans (congrArg (4 + ·) (length_flatMap_of_width fun x hx => ?_))
    obtain ⟨e, rfl, -⟩ := hentries x hx
    exact length_entryBytes e
  have hlength : expectedLength (withCheck (listBody f)) = some ((listBody f).length + 2) := by rw [hbody, hcount]; rfl
  refine (judge_list (soundFrame_withCheck hlength rfl hfirst hlast hslots) rfl).trans (congrArg Judged.list ?_)
  have hplaces : (pieces 11 16 ((withCheck (listBody f)).drop 4)).map entryOf = f.entries := by
    rw [← hcount]
    refine map_pieces_flatMap (fun x hx => ?_) _
    obtain ⟨e, rfl, he⟩ := hentries x hx
    exact ⟨length_entryBytes e, entryOf_entryBytes he⟩
  have hread : listOf (withCheck (listBody f)) = ⟨(BitVec.ofNat 8 f.sender).toNat, beNat (beBytes 2 f.cycleLow),
      (pieces 11 16 ((withCheck (listBody f)).drop 4)).map entryOf⟩ := rfl
  rw [hread, hplaces, byte_toNat (by omega), beNat_beBytes hcycle]

/-- Settles O57: each of the three kinds is read back, its fields, entries and notices by their own lemmas. -/
theorem framesRoundTrip : Obligations.FramesRoundTrip :=
  ⟨fun _ _ => judge_markFrame, fun _ _ => judge_slotFrame, fun _ _ => judge_listFrame⟩

end Sys2Proof.Machine
end

section
/-! The records of the window (R171, R194): the flag bytes bit by bit, the bytes of a point record. -/

namespace Sys2Proof.Machine

open Sys2Proof

/-- The places that an Alarm List and a Point Table record share: all but the first and the third flag and the chatter
count (R194). -/
def PointLayout (id : PointId) (r : PointRecord) (bs : List Byte) : Prop :=
  bs.length = 16 ∧ byteAt bs 0 = 1 ∧ (byteAt bs 1).toNat = id.owner ∧ (byteAt bs 2).toNat = id.point
    ∧ byteAt bs 3 = stateFlagsByte r.state r.active r.shelved r.firstOut
    ∧ (byteAt bs 4).getLsbD 1 = r.ownerLost ∧ (∀ i, 3 ≤ i → (byteAt bs 4).getLsbD i = false)
    ∧ byteAt bs 5 = attributesByte r.attrs ∧ byteAt bs 6 = BitVec.ofNat 8 r.occurrence
    ∧ (bs.drop 7).take 7 = stampBytes (r.alert.getD ⟨0, 0, 0⟩)
    ∧ byteAt bs 14 = BitVec.ofNat 8 (r.lastActor.getD 0)

theorem pointBytes_layout {id : PointId} (r : PointRecord) {flags : Byte} (howner : id.owner ≤ 24) (hpoint : id.point ≤ 16)
    (hlost : flags.getLsbD 1 = r.ownerLost) (hrest : ∀ i, 3 ≤ i → flags.getLsbD i = false) (chatter : Nat) :
    PointLayout id r (pointBytes id r flags chatter) :=
  ⟨rfl, rfl, byte_toNat (by omega), byte_toNat (by omega), rfl, hlost, hrest, rfl, rfl, rfl, rfl⟩

/-- The flags of an Alarm List record: the owner-lost flag alone. -/
theorem listFlags_getLsbD (lost : Bool) :
    (bit lost 1).getLsbD 0 = false ∧ (bit lost 1).getLsbD 1 = lost ∧ (bit lost 1).getLsbD 2 = false
      ∧ ∀ i, 3 ≤ i → (bit lost 1).getLsbD i = false := by
  refine ⟨?_, ?_, ?_, fun i hi => ?_⟩
  case refine_4 => rw [getLsbD_bit lost (by decide), decide_eq_false (by omega), Bool.and_false]
  all_goals simp [getElem_bit]

/-- The three flags of a Point Table record, one bit each. -/
theorem tableFlags_getLsbD (unlisted lost own : Bool) :
    let flags := bit unlisted 0 ||| bit lost 1 ||| bit own 2
    flags.getLsbD 0 = unlisted ∧ flags.getLsbD 1 = lost ∧ flags.getLsbD 2 = own
      ∧ ∀ i, 3 ≤ i → flags.getLsbD i = false := by
  refine ⟨?_, ?_, ?_, fun i hi => ?_⟩
  case refine_4 => simp [getLsbD_bit, show i ≠ 0 by omega, show i ≠ 1 by omega, show i ≠ 2 by omega]
  all_goals simp [getElem_bit]

/-- The presence bits and the class code of a History Log record share a byte. -/
theorem historyFlags_fields (point occurrence actor count : Bool) (cls : Option PointClass) :
    let flags := bit point 0 ||| bit occurrence 1 ||| bit actor 2 ||| bit count 3
      ||| BitVec.ofNat 8 (64 * optClassCode cls)
    flags.getLsbD 0 = point ∧ flags.getLsbD 1 = occurrence ∧ flags.getLsbD 2 = actor ∧ flags.getLsbD 3 = count
      ∧ flags.getLsbD 4 = false ∧ flags.getLsbD 5 = false ∧ flags.toNat / 64 = optClassCode cls := by
  cases cls with
  | none => decide +revert
  | some c => cases c <;> decide +revert

/-- Settles O49: the bytes that are written whole by the definition, the flag bytes by their bits. -/
theorem recordLayouts : Obligations.RecordLayouts := by
  refine ⟨fun s id howner hpoint => ?_, fun s k hk => ?_, fun e => ?_, by decide, by decide⟩
  · intro r listed own
    obtain ⟨list0, list1, list2, listRest⟩ := listFlags_getLsbD r.ownerLost
    obtain ⟨table0, table1, table2, tableRest⟩ := tableFlags_getLsbD r.unlisted r.ownerLost (decide own)
    exact ⟨pointBytes_layout r howner hpoint list1 listRest _, list0, list2, rfl,
      pointBytes_layout r howner hpoint table1 tableRest _, table0, table2, apply_ite (BitVec.ofNat 8) own _ 0⟩
  · intro e bs
    have hflags : byteAt bs 11 = bit e.digest.isSome 0 ||| bit e.listOwed 1 ||| bit e.stale 2 ||| bit e.resync.isSome 3
      ||| bit e.joinWait.isSome 4 := rfl
    refine ⟨rfl, rfl, byte_toNat (by omega), rfl, rfl, rfl, rfl, ?_, ?_, ?_, ?_, ?_, rfl, rfl, rfl, rfl⟩
    all_goals simp [hflags, getElem_bit]
  · intro bs
    obtain ⟨hpoint, hoccurrence, hactor, hcount, hbit4, hbit5, hclass⟩ := historyFlags_fields e.point.isSome e.occurrence.isSome
      e.actor.isSome e.count.isSome e.cls
    refine ⟨rfl, rfl, rfl, rfl, hpoint, hoccurrence, hactor, hcount, hbit4, hbit5, hclass.trans ?_, rfl, rfl, rfl, rfl, rfl⟩
    cases e.cls with
    | none => rfl
    | some c => cases c <;> rfl

end Sys2Proof.Machine
end
